-- ==== Sys2Proof/Word.lean ====
section
/-! DEFINITION. The word types of the block. Every quantity is unsigned (00_scope.md R7); the widths
are those of 10_state.md R10 and 30_encoding.md R67. -/

namespace Sys2Proof

/-- A byte of the stream or of `BUF`: 8 bits, value 0 to 255 (R7). -/
abbrev Byte := BitVec 8

/-- A 16-bit value: `ACC`, a field of the frame, a register `MEAS[k]` (R14, R17, R63). -/
abbrev Half := BitVec 16

/-- The frame offset of the next byte: 5 bits, 0 to 31 (R13). -/
abbrev Pos := BitVec 5

/-- A count of TICK events: `TIMER` and the operand of START, `TIMER_W` = 32 bits (R18). -/
abbrev Ticks := BitVec 32

/-- An event word `{kind[2:0], operand[31:0]}`: 35 bits (R67). -/
abbrev EventWord := BitVec 35

/-- The body buffer `BUF[0..27]` (R16). -/
abbrev Buf := Vector Byte 28

/-- The result registers `MEAS[0..11]` (R17). -/
abbrev Meas := Vector Half 12

/-- `BUF` all zero. -/
def zeroBuf : Buf := Vector.replicate 28 0

/-- `MEAS` all zero. -/
def zeroMeas : Meas := Vector.replicate 12 0

end Sys2Proof
end

