-- ==== Sys2Proof/Machine/Codes.lean ====
section
/-! DEFINITION. The vocabulary of the block: session status, outcome, error kinds and events, each a
closed set of names with the numeric codes the spec gives them (10_state.md R11, R12; 60_exceptions.md
R161; 30_encoding.md R67). -/

namespace Sys2Proof

/-- Session status `SESS` (R11). Code 3 has no constructor. -/
inductive Sess where
  /-- READY: no session has run since RESET. -/
  | ready
  /-- RUNNING: a session is in progress. -/
  | running
  /-- DONE: the last session has delivered its outcome. -/
  | done
  deriving DecidableEq, Repr

/-- The 2-bit code of `SESS` (R11). -/
def Sess.code : Sess → BitVec 2
  | .ready => 0
  | .running => 1
  | .done => 2

/-- Reading a 2-bit code of `SESS`: code 3 is refused (R11, V2). -/
def Sess.ofCode (c : BitVec 2) : Option Sess :=
  if c = 0 then some .ready
  else if c = 1 then some .running
  else if c = 2 then some .done
  else Option.none

/-- The register `OUTCOME` (R12). Codes 5, 6 and 7 have no constructor. -/
inductive SessionOutcome where
  /-- NONE: no outcome yet. -/
  | none
  /-- OK: a frame passed all checks and `MEAS` holds it. -/
  | ok
  /-- IO_FAILURE: the byte source reported a read error. -/
  | ioFailure
  /-- TIMEOUT: the deadline elapsed with no successful frame. -/
  | timeout
  /-- CANCELLED: external stop requested. -/
  | cancelled
  deriving DecidableEq, Repr

/-- The 3-bit code of `OUTCOME` (R12). -/
def SessionOutcome.code : SessionOutcome → BitVec 3
  | .none => 0
  | .ok => 1
  | .ioFailure => 2
  | .timeout => 3
  | .cancelled => 4

/-- Reading a 3-bit code of `OUTCOME`: codes 5, 6 and 7 are refused (R12, V3). -/
def SessionOutcome.ofCode (c : BitVec 3) : Option SessionOutcome :=
  if c = 0 then some .none
  else if c = 1 then some .ok
  else if c = 2 then some .ioFailure
  else if c = 3 then some .timeout
  else if c = 4 then some .cancelled
  else Option.none

/-- The five error kinds; there is no other (R160). -/
inductive ErrKind where
  | ioFailure
  | timeout
  | cancelled
  | badFrameLength
  | checksumMismatch
  deriving DecidableEq, Repr

/-- The class of an error kind (R160). -/
inductive ErrClass where
  | fatal
  | sessionLevel
  | recoverable
  deriving DecidableEq, Repr

/-- The class each kind belongs to (R160, R161). -/
def ErrKind.cls : ErrKind → ErrClass
  | .ioFailure => .fatal
  | .timeout => .sessionLevel
  | .cancelled => .sessionLevel
  | .badFrameLength => .recoverable
  | .checksumMismatch => .recoverable

/-- The 3-bit error code `ERR` (R161). -/
def ErrKind.code : ErrKind → BitVec 3
  | .ioFailure => 2
  | .timeout => 3
  | .cancelled => 4
  | .badFrameLength => 5
  | .checksumMismatch => 6

/-- The outcome a kind becomes (R161): the recoverable kinds never become one. -/
def ErrKind.becomesOutcome : ErrKind → Option SessionOutcome
  | .ioFailure => some .ioFailure
  | .timeout => some .timeout
  | .cancelled => some .cancelled
  | .badFrameLength => Option.none
  | .checksumMismatch => Option.none

/-- The kind of an event (R67). Code 7 has no constructor. -/
inductive EventKind where
  | nop
  | byte
  | ioerr
  | tick
  | cancel
  | start
  | reset
  deriving DecidableEq, Repr

/-- The 3-bit kind code (R67). -/
def EventKind.code : EventKind → BitVec 3
  | .nop => 0
  | .byte => 1
  | .ioerr => 2
  | .tick => 3
  | .cancel => 4
  | .start => 5
  | .reset => 6

/-- Reading a kind code: code 7 is not an event (R67, V1). -/
def EventKind.ofCode (c : BitVec 3) : Option EventKind :=
  if c = 0 then some .nop
  else if c = 1 then some .byte
  else if c = 2 then some .ioerr
  else if c = 3 then some .tick
  else if c = 4 then some .cancel
  else if c = 5 then some .start
  else if c = 6 then some .reset
  else Option.none

/-- The event alphabet, the block's normative interface (R26). -/
inductive Event where
  /-- RESET, from the host. -/
  | reset
  /-- START(n), from the host; `n` is `timeout_ticks`. -/
  | start (n : Ticks)
  /-- BYTE(b), from the byte source. -/
  | byte (b : Byte)
  /-- IOERR, from the byte source. -/
  | ioerr
  /-- TICK, from the tick source. -/
  | tick
  /-- CANCEL, from the canceller. -/
  | cancel
  /-- NOP: a step in which nothing arrives. -/
  | nop
  deriving DecidableEq, Repr

/-- The kind of an event. -/
def Event.kind : Event → EventKind
  | .reset => .reset
  | .start _ => .start
  | .byte _ => .byte
  | .ioerr => .ioerr
  | .tick => .tick
  | .cancel => .cancel
  | .nop => .nop

/-- The byte a BYTE event carries. -/
def Event.byte? : Event → Option Byte
  | .byte b => some b
  | .reset => Option.none
  | .start _ => Option.none
  | .ioerr => Option.none
  | .tick => Option.none
  | .cancel => Option.none
  | .nop => Option.none

/-- Why a word is no event (R67). -/
inductive DecodeError where
  /-- Kind code 7 (V1). -/
  | reservedKind
  /-- A non-zero operand bit that the kind does not use (V5). -/
  | unusedOperandBits
  deriving DecidableEq, Repr

/-- The twelve measured quantities, in the order in which the source lists them (R65, D9). -/
inductive Quantity where
  | pm1Standard
  | pm25Standard
  | pm10Standard
  | pm1Atmospheric
  | pm25Atmospheric
  | pm10Atmospheric
  | count03
  | count05
  | count10
  | count25
  | count50
  | count100
  deriving DecidableEq, Repr

/-- The index of a quantity in `MEAS`: the listing order (R65). No rule depends on the names. -/
def Quantity.index : Quantity → Fin 12
  | .pm1Standard => 0
  | .pm25Standard => 1
  | .pm10Standard => 2
  | .pm1Atmospheric => 3
  | .pm25Atmospheric => 4
  | .pm10Atmospheric => 5
  | .count03 => 6
  | .count05 => 7
  | .count10 => 8
  | .count25 => 9
  | .count50 => 10
  | .count100 => 11

/-- What the next byte is taken as, by `POS` (the table of R13). -/
inductive Stage where
  /-- POS 0, the source's `Idle`: candidate first marker byte. -/
  | idle
  /-- POS 1, the source's `SawFirstMarker`: candidate second marker byte. -/
  | sawFirstMarker
  /-- POS 2, the source's `Synced`: length field, high byte. -/
  | synced
  /-- POS 3: length field, low byte. -/
  | lengthLow
  /-- POS 4 to 27: a data byte of a measurement field. -/
  | measurement
  /-- POS 28 and 29: a data byte of the reserved field. -/
  | reserved
  /-- POS 30: checksum field, high byte. -/
  | checksumHigh
  /-- POS 31: checksum field, low byte. -/
  | checksumLow
  deriving DecidableEq, Repr

/-- The stage of a position (R13). -/
def stageOf (p : Pos) : Stage :=
  if p.toNat = 0 then .idle
  else if p.toNat = 1 then .sawFirstMarker
  else if p.toNat = 2 then .synced
  else if p.toNat = 3 then .lengthLow
  else if p.toNat ≤ 27 then .measurement
  else if p.toNat ≤ 29 then .reserved
  else if p.toNat = 30 then .checksumHigh
  else .checksumLow

end Sys2Proof
end

