-- ==== Sys2Proof/Config.lean ====
section
/-! DEFINITION. The implementation parameters of 00_scope.md R6. The protocol constants are fixed by
the source. `REARM` is an argument of the model; `TICK_PERIOD` is open and used by no rule of the
step. -/

namespace Sys2Proof

namespace Config

/-- `MARK1`: the first marker byte (R6, R62). -/
def mark1 : Byte := 0x42

/-- `MARK2`: the second marker byte (R6, R62). -/
def mark2 : Byte := 0x4D

/-- `FRAME_LEN`: the only accepted value of the length field, 28 (R6, R62). -/
def frameLen : Half := 0x001C

/-- `BODY_BYTES`: bytes read after the length field (R6). -/
def bodyBytes : Nat := 28

/-- `DATA_BYTES`: body bytes covered by the checksum (R6). -/
def dataBytes : Nat := 26

/-- `N_MEAS`: measurement fields delivered (R6). -/
def nMeas : Nat := 12

/-- `FRAME_BYTES`: total frame size (R6). -/
def frameBytes : Nat := 32

/-- `ACC_W`: width of the accumulator (R6, D4); `Half` has it. -/
def accW : Nat := 16

/-- `TIMER_W`: width of the deadline counter (R6, D12); `Ticks` has it. -/
def timerW : Nat := 32

/-- `TICK_PERIOD`: the real time between two TICK events. The spec leaves it OPEN (R6, D12), so it
has no body: nothing can be proved of its value but that a duration between two events is not zero.
Log entry 6. -/
opaque tickPeriod : PNat

end Config

/-- The parameters the spec's step function takes as its argument `Params` (R4, R6) and that a run may
be given with either value. -/
structure Params where
  /-- `REARM`: true is 1 (a `0x42` seen in SawFirstMarker is kept as a new first marker), false is 0
  (it is dropped like any other byte); R6, conflict C2. -/
  rearm : Bool
  deriving DecidableEq, Repr

/-- `REARM` is 1 by default (R6, D6). -/
def Params.default : Params := { rearm := true }

end Sys2Proof
end

