-- ==== Sys2Proof/Machine/Operands.lean ====
section
/-! DEFINITION. Assembling values and addressing `BUF`: zero extension and concatenation (00_scope.md
R7), the big-endian 16-bit view (20_memory.md R43, 30_encoding.md R63), the index `POS - 4` and the
primitives `MemRead` and `MemWrite` (00_scope.md R8). There are no other operand forms (R63). -/

namespace Sys2Proof

/-- `zext_16(b)` (R7). -/
def zext16 (b : Byte) : Half := b.setWidth 16

/-- `{first, second}`: the byte that arrives first is the more significant (R43, R63). -/
def be16 (first second : Byte) : Half := first ++ second

/-- The high byte of a 16-bit value, the one that is sent first (R43, R72). -/
def highByte (v : Half) : Byte := v.extractLsb' 8 8

/-- The low byte of a 16-bit value, the one that is sent second (R43, R72). -/
def lowByte (v : Half) : Byte := v.extractLsb' 0 8

/-- `ACC + zext_16(b)`, modulo `2^16` (R14). -/
def addCovered (acc : Half) (b : Byte) : Half := acc + zext16 b

/-- The body index of a position, `POS - 4` (R16, R61). It is used at POS 4 to 30 only. -/
def bodyIndex (p : Pos) : Fin 28 := ⟨p.toNat - 4, by have := p.isLt; omega⟩

/-- `MemRead(i, 1)` (R8). -/
def memRead1 (buf : Buf) (i : Fin 28) : Byte := buf[i.val]

/-- `MemRead(2k, 2)`: the unsigned big-endian value `{BUF[2k], BUF[2k+1]}` (R8, R43). -/
def memRead2 (buf : Buf) (k : Fin 12) : Half :=
  be16 (buf[2 * k.val]'(by omega)) (buf[2 * k.val + 1]'(by omega))

/-- `MemWrite(i, 1, v)` (R8). -/
def memWrite1 (buf : Buf) (i : Fin 28) (v : Byte) : Buf := buf.set i.val v

/-- The twelve measurement fields of the body: `M_k = {BUF[2k], BUF[2k+1]}` (R113, R120). -/
def measOf (buf : Buf) : Meas := Vector.ofFn fun k => memRead2 buf k

end Sys2Proof
end

