-- ==== Sys2Proof/Syntax.lean ====
section
/-! DEFINITION. The 25 operations of spec/opcode_table.json, the block's analogue of instructions
(00_scope.md R9), in the order of 30_encoding.md R68. An operation carries the operand its event word
carries where the row leaves operand bits free. -/

namespace Sys2Proof

/-- The operations, one constructor per row of the operation map R68. -/
inductive Instr where
  /-- RESET (R130). -/
  | reset
  /-- START.RUN (R131): a session begins with `n` timeout ticks. -/
  | startRun (n : Ticks)
  /-- START.IGN (R132): start during a session; `n` is not used. -/
  | startIgn (n : Ticks)
  /-- TICK.DEC (R133): one unit of the deadline passes. -/
  | tickDec
  /-- TICK.EXP (R134): the deadline elapses. -/
  | tickExp
  /-- TICK.IGN (R135): tick outside a session. -/
  | tickIgn
  /-- CANCEL.FIN (R136): cancellation during a session. -/
  | cancelFin
  /-- CANCEL.IGN (R137): cancellation outside a session. -/
  | cancelIgn
  /-- IOERR.FIN (R138): the byte source fails during a session. -/
  | ioerrFin
  /-- IOERR.IGN (R139): the byte source fails outside a session. -/
  | ioerrIgn
  /-- BYTE.IGN (R140): a byte outside a session; `b` is not used. -/
  | byteIgn (b : Byte)
  /-- NOP (R141): nothing arrives. -/
  | nop
  /-- SYN.M1 (R90): first marker byte seen; the byte is `0x42`. -/
  | synM1
  /-- SYN.SKIP (R91): noise byte in Idle. -/
  | synSkip (b : Byte)
  /-- SYN.M2 (R92): second marker byte seen; the byte is `0x4D`. -/
  | synM2
  /-- SYN.REARM (R93): a second `0x42` kept as a fresh first marker. -/
  | synRearm
  /-- SYN.DROP (R94): marker sequence broken. -/
  | synDrop (b : Byte)
  /-- LEN.HI (R100): first length byte. -/
  | lenHi (b : Byte)
  /-- LEN.LO.OK (R101): second length byte, length is 28. -/
  | lenLoOk (b : Byte)
  /-- LEN.LO.BAD (R102): second length byte, length is not 28. -/
  | lenLoBad (b : Byte)
  /-- BODY.MEAS (R110): a byte of a measurement field. -/
  | bodyMeas (b : Byte)
  /-- BODY.RSV (R111): a byte of the reserved field. -/
  | bodyRsv (b : Byte)
  /-- CK.HI (R112): high byte of the checksum field. -/
  | ckHi (b : Byte)
  /-- CK.LO.OK (R120): last byte, checksum matches. -/
  | ckLoOk (b : Byte)
  /-- CK.LO.BAD (R121): last byte, checksum does not match. -/
  | ckLoBad (b : Byte)
  deriving DecidableEq, Repr

end Sys2Proof
end

