-- ==== Sys2Proof/WellFormed.lean ====
section
/-! DEFINITION. Which operations can be selected at all, whatever the state: the part of the selection
conditions of R68 that speaks of the operand alone. -/

namespace Sys2Proof

/-- An operation is well formed when some state and event select it. SYN.SKIP never carries the first
marker byte (R91), SYN.DROP never the second (R94), and LEN.LO.OK always the byte `0x1C` (R101); the
other operands are free. -/
def Instr.wellFormed : Instr → Bool
  | .reset => true
  | .startRun _ => true
  | .startIgn _ => true
  | .tickDec => true
  | .tickExp => true
  | .tickIgn => true
  | .cancelFin => true
  | .cancelIgn => true
  | .ioerrFin => true
  | .ioerrIgn => true
  | .byteIgn _ => true
  | .nop => true
  | .synM1 => true
  | .synSkip b => b != Config.mark1
  | .synM2 => true
  | .synRearm => true
  | .synDrop b => b != Config.mark2
  | .lenHi _ => true
  | .lenLoOk b => b == 0x1C
  | .lenLoBad _ => true
  | .bodyMeas _ => true
  | .bodyRsv _ => true
  | .ckHi _ => true
  | .ckLoOk _ => true
  | .ckLoBad _ => true

end Sys2Proof
end

