-- ==== Sys2Proof/Decode.lean ====
section
/-! DEFINITION. From an event word to an operation, in the two layers the spec has: the event word
(30_encoding.md R67) is read alone; which operation the event selects depends on the state too (R68).
Then the encoder, written from the same two rules. -/

namespace Sys2Proof

/-- `kind[2:0]`, bits 34 to 32 of the word (R67). -/
def kindField (w : EventWord) : BitVec 3 := w.extractLsb' 32 3

/-- `operand[31:0]`, the low 32 bits of the word (R67). -/
def operandField (w : EventWord) : BitVec 32 := w.extractLsb' 0 32

/-- Format E0: the operand bits are all zero (R67). -/
def decodeE0 (w : EventWord) (e : Event) : Except DecodeError Event :=
  if operandField w = 0 then .ok e else .error .unusedOperandBits

/-- Format EB: `operand[31:8]` is zero and `operand[7:0]` is the byte (R67). -/
def decodeEB (w : EventWord) : Except DecodeError Event :=
  if (operandField w).extractLsb' 8 24 = 0 then .ok (.byte ((operandField w).extractLsb' 0 8))
  else .error .unusedOperandBits

/-- Format ES: the operand is `n` (R67). -/
def decodeES (w : EventWord) : Except DecodeError Event := .ok (.start (operandField w))

/-- The event a word stands for, or why it stands for none (R67). -/
def decodeEvent (w : EventWord) : Except DecodeError Event :=
  match EventKind.ofCode (kindField w) with
  | some .nop => decodeE0 w .nop
  | some .byte => decodeEB w
  | some .ioerr => decodeE0 w .ioerr
  | some .tick => decodeE0 w .tick
  | some .cancel => decodeE0 w .cancel
  | some .start => decodeES w
  | some .reset => decodeE0 w .reset
  | none => .error .reservedKind

/-- What the operation map examines beside the event (R68): `SESS`, `POS`, and the state the guards
read (`TIMER`, `LENHI`, `ACC`, `BUF[26]`, `REARM`). -/
structure Ctx where
  sess : Sess
  pos : Pos
  timer : Ticks
  lenHi : Byte
  acc : Half
  ckHi : Byte
  rearm : Bool
  deriving DecidableEq, Repr

/-- Rows 11 and 13 to 25 of R68: the operation a BYTE event selects, first match wins. -/
def selectByte (c : Ctx) (b : Byte) : Instr :=
  if c.sess ≠ .running then .byteIgn b
  else if c.pos = 0 ∧ b = Config.mark1 then .synM1
  else if c.pos = 0 then .synSkip b
  else if c.pos = 1 ∧ b = Config.mark2 then .synM2
  else if c.pos = 1 ∧ b = Config.mark1 ∧ c.rearm = true then .synRearm
  else if c.pos = 1 then .synDrop b
  else if c.pos = 2 then .lenHi b
  else if c.pos = 3 ∧ be16 c.lenHi b = Config.frameLen then .lenLoOk b
  else if c.pos = 3 then .lenLoBad b
  else if c.pos.toNat ≤ 27 then .bodyMeas b
  else if c.pos.toNat ≤ 29 then .bodyRsv b
  else if c.pos = 30 then .ckHi b
  else if c.acc = be16 c.ckHi b then .ckLoOk b
  else .ckLoBad b

/-- The operation map R68: the one operation an event selects in a state. -/
def select (c : Ctx) : Event → Instr
  | .reset => .reset
  | .start n => if c.sess ≠ .running then .startRun n else .startIgn n
  | .tick =>
    if c.sess = .running then (if c.timer ≠ 0 then .tickDec else .tickExp) else .tickIgn
  | .cancel => if c.sess = .running then .cancelFin else .cancelIgn
  | .ioerr => if c.sess = .running then .ioerrFin else .ioerrIgn
  | .byte b => selectByte c b
  | .nop => .nop

/-- The decoder: the operation a word selects in a state, or why the word is no event. -/
def decode (c : Ctx) (w : EventWord) : Except DecodeError Instr :=
  match decodeEvent w with
  | .ok e => .ok (select c e)
  | .error r => .error r

/-- One row of R68 read by itself, without the order of the rows: the conditions on the state and the
byte under which the operation is selected. Each line is the "Selection" clause of its rule. -/
def rowFits (c : Ctx) : Instr → Bool
  | .reset => true
  | .startRun _ => c.sess == .ready || c.sess == .done
  | .startIgn _ => c.sess == .running
  | .tickDec => c.sess == .running && c.timer != 0
  | .tickExp => c.sess == .running && c.timer == 0
  | .tickIgn => c.sess == .ready || c.sess == .done
  | .cancelFin => c.sess == .running
  | .cancelIgn => c.sess == .ready || c.sess == .done
  | .ioerrFin => c.sess == .running
  | .ioerrIgn => c.sess == .ready || c.sess == .done
  | .byteIgn _ => c.sess == .ready || c.sess == .done
  | .nop => true
  | .synM1 => c.sess == .running && c.pos == 0
  | .synSkip b => c.sess == .running && c.pos == 0 && b != 0x42
  | .synM2 => c.sess == .running && c.pos == 1
  | .synRearm => c.sess == .running && c.pos == 1 && c.rearm
  | .synDrop b => c.sess == .running && c.pos == 1 && b != 0x4D && !(b == 0x42 && c.rearm)
  | .lenHi _ => c.sess == .running && c.pos == 2
  | .lenLoOk b => c.sess == .running && c.pos == 3 && (c.lenHi == 0x00 && b == 0x1C)
  | .lenLoBad b => c.sess == .running && c.pos == 3 && !(c.lenHi == 0x00 && b == 0x1C)
  | .bodyMeas _ => c.sess == .running && Nat.ble 4 c.pos.toNat && Nat.ble c.pos.toNat 27
  | .bodyRsv _ => c.sess == .running && (c.pos == 28 || c.pos == 29)
  | .ckHi _ => c.sess == .running && c.pos == 30
  | .ckLoOk b => c.sess == .running && c.pos == 31 && c.acc == be16 c.ckHi b
  | .ckLoBad b => c.sess == .running && c.pos == 31 && c.acc != be16 c.ckHi b

/-- The operand field of an event: zero where the kind has no operand, `operand[7:0]` for BYTE (R67). -/
def Event.operand : Event → BitVec 32
  | .reset => 0
  | .start n => n
  | .byte b => b.setWidth 32
  | .ioerr => 0
  | .tick => 0
  | .cancel => 0
  | .nop => 0

/-- The event word `{kind, operand}` (R67). -/
def encodeEvent (e : Event) : EventWord := e.kind.code ++ e.operand

/-- The event that selects an operation (the "event" and "byte" columns of R68). -/
def Instr.event : Instr → Event
  | .reset => .reset
  | .startRun n => .start n
  | .startIgn n => .start n
  | .tickDec => .tick
  | .tickExp => .tick
  | .tickIgn => .tick
  | .cancelFin => .cancel
  | .cancelIgn => .cancel
  | .ioerrFin => .ioerr
  | .ioerrIgn => .ioerr
  | .byteIgn b => .byte b
  | .nop => .nop
  | .synM1 => .byte Config.mark1
  | .synSkip b => .byte b
  | .synM2 => .byte Config.mark2
  | .synRearm => .byte Config.mark1
  | .synDrop b => .byte b
  | .lenHi b => .byte b
  | .lenLoOk b => .byte b
  | .lenLoBad b => .byte b
  | .bodyMeas b => .byte b
  | .bodyRsv b => .byte b
  | .ckHi b => .byte b
  | .ckLoOk b => .byte b
  | .ckLoBad b => .byte b

/-- The encoder: the event word of an operation. -/
def encode (i : Instr) : EventWord := encodeEvent i.event

/-- What R68 examines in the state right after reset (R25) with `REARM` at its default. -/
def Ctx.afterReset : Ctx :=
  { sess := .ready, pos := 0, timer := 0, lenHi := 0, acc := 0, ckHi := 0,
    rearm := Params.default.rearm }

/-- The word of kind 7 and operand 0, which is no event (R67, V1). -/
def reservedWord : EventWord := 0x700000000

/-- The event word held by `nbits` bits of a number that spec/opcode_table.json numbers. A number that
needs more than 35 bits is no event word; the reserved word, which the decoder refuses, stands for it. -/
def tableWord (nbits w : Nat) : EventWord :=
  if w % 2 ^ nbits < 2 ^ 35 then BitVec.ofNat 35 (w % 2 ^ nbits) else reservedWord

/-- The operation the decoder reads from a table word, in the state right after reset. The map R68
gives rows that share a word to different states, so a word alone names one of them only: this names
the one that the word selects as the first event after reset (log entry 4). -/
def decodeTableWord (nbits w : Nat) : Option Instr :=
  match decode Ctx.afterReset (tableWord nbits w) with
  | .ok i => some i
  | .error _ => none

end Sys2Proof
end

