-- ==== Sys2Proof/Machine/State.lean ====
section
/-! DEFINITION. The state of the machine: the eight elements of 10_state.md R10, and two fields of the
model's own that carry the spec's other two arguments of its step function (00_scope.md R4), `Params`
and the events. Plain data. -/

namespace Sys2Proof.Machine

/-- The state. -/
structure State where
  /-- `SESS`, the session status (R11). -/
  sess : Sess
  /-- `OUTCOME`, the session's single outcome (R12). -/
  outcome : SessionOutcome
  /-- `POS`, the frame offset of the next byte (R13). -/
  pos : Pos
  /-- `ACC`, the running sum of the covered bytes of this attempt (R14). -/
  acc : Half
  /-- `LENHI`, the first byte of the length field (R15). -/
  lenHi : Byte
  /-- `BUF[0..27]`, the body bytes of the frame being received (R16). -/
  buf : Buf
  /-- `MEAS[0..11]`, the committed measurement (R17). -/
  meas : Meas
  /-- `TIMER`, the TICK events still to pass before the deadline (R18). -/
  timer : Ticks
  /-- The parameters of the run (R6). The model's own field: no operation writes it (log entry 2). -/
  params : Params
  /-- The event words the environment has delivered and the block has not yet applied, oldest first.
  The model's own field: no operation reads or writes it (log entry 1). -/
  input : List EventWord
  deriving DecidableEq, Repr

/-- The machine right after reset (R25, R190): the parameters at their default, no event delivered. -/
def State.reset : State where
  sess := .ready
  outcome := .none
  pos := 0
  acc := 0
  lenHi := 0
  buf := zeroBuf
  meas := zeroMeas
  timer := 0
  params := Params.default
  input := []

/-- The reasons the machine stops with a fault. There is none: "No operation faults, blocks or leaves a
state element undefined" (R28). -/
inductive Fault where
  deriving DecidableEq, Repr

/-- The reasons a step is refused. -/
inductive Refusal where
  /-- An operation that has no meaning yet. No arm of `exec` answers it. Safe. -/
  | notModelled (mnemonic : String)
  /-- Raised by `step` on a word that is no event: kind code 7 (V1), or a non-zero operand bit that the
  kind does not use (V5). "A decoder of event words must reject it" (R67). Safe. -/
  | malformedEvent (reason : DecodeError)
  /-- Raised by a meaning when the operation map R68 does not select the operation in the state: an
  operation is a transition of the states that select it, and the spec gives it no effect in another.
  No step raises it. Safe; log entry 3. -/
  | notSelected
  deriving DecidableEq, Repr

end Sys2Proof.Machine
end

