-- ==== Sys2Proof/Machine/Ops.lean ====
section
/-! DEFINITION. The operations the meanings share: the two reset primitives (10_state.md R22, R23),
taking an error as one operation (60_exceptions.md R169, R170), storing a body byte, committing a
measurement, and applying an operation where R68 selects it. Of every update, the right-hand sides
read the state before the step (00_scope.md R8). -/

namespace Sys2Proof.Machine

/-- What the operation map R68 examines in a state. -/
def State.ctx (s : State) : Ctx where
  sess := s.sess
  pos := s.pos
  timer := s.timer
  lenHi := s.lenHi
  acc := s.acc
  ckHi := memRead1 s.buf 26
  rearm := s.params.rearm

/-- `AttemptReset()` (R22): it clears the worker-owned state and touches nothing else. -/
def State.attemptReset (s : State) : State :=
  { s with pos := 0, acc := 0, lenHi := 0, buf := zeroBuf }

/-- `Finish(k)` (R23): `OUTCOME <- k; SESS <- DONE; TIMER <- 0; AttemptReset()`. It does not write
`MEAS`. -/
def State.finish (s : State) (k : SessionOutcome) : State :=
  { s with outcome := k, sess := .done, timer := 0 }.attemptReset

/-- `raise k`: entry for an error. A recoverable kind restarts the scan and saves nothing (R169); a
fatal or session-level kind ends the session, saving the kind in `OUTCOME` (R170). There is no return
operation (R171). -/
def State.raiseError (s : State) (k : ErrKind) : State :=
  match k.becomesOutcome with
  | some o => s.finish o
  | none => s.attemptReset

/-- The effect BODY.MEAS and BODY.RSV share: store the byte, add it, advance (R110, R111). -/
def State.storeCovered (s : State) (b : Byte) : State :=
  { s with buf := memWrite1 s.buf (bodyIndex s.pos) b, acc := addCovered s.acc b, pos := s.pos + 1 }

/-- All twelve measurement registers take the fields of the body (R120). -/
def State.commitMeas (s : State) : State := { s with meas := measOf s.buf }

/-- All twelve measurement registers are zeroed and the outcome is erased (R130, R131). -/
def State.clearResult (s : State) : State := { s with outcome := .none, meas := zeroMeas }

/-- The operation `i` in the state `s`, with the effect `t`: it is a transition of the states in which
its row of R68 fits, and of no other (log entry 3). -/
def whenSelected (i : Instr) (s t : State) : Host.Outcome State Fault Refusal :=
  if rowFits s.ctx i = true then .next t else .refused .notSelected

/-- The error an operation raises, if any (the "raised by" column of R161). It is visible in a trace of
operations only: no state element records it. -/
def raised : Instr → Option ErrKind
  | .reset => none
  | .startRun _ => none
  | .startIgn _ => none
  | .tickDec => none
  | .tickExp => some .timeout
  | .tickIgn => none
  | .cancelFin => some .cancelled
  | .cancelIgn => none
  | .ioerrFin => some .ioFailure
  | .ioerrIgn => none
  | .byteIgn _ => none
  | .nop => none
  | .synM1 => none
  | .synSkip _ => none
  | .synM2 => none
  | .synRearm => none
  | .synDrop _ => none
  | .lenHi _ => none
  | .lenLoOk _ => none
  | .lenLoBad _ => some .badFrameLength
  | .bodyMeas _ => none
  | .bodyRsv _ => none
  | .ckHi _ => none
  | .ckLoOk _ => none
  | .ckLoBad _ => some .checksumMismatch

/-- The host gives the strap `REARM` a value: never while a session runs, unless the value is the one
it has (R193, R202, V8). -/
def State.setRearm (s : State) (r : Bool) : Option State :=
  if s.sess = .running ∧ s.params.rearm ≠ r then none
  else some { s with params := { s.params with rearm := r } }

end Sys2Proof.Machine
end

