-- ==== Sys2Proof/Machine/BodyDecoder.lean ====
section
/-! DEFINITION. The Frame Body Decoder operations (43_body_decoder.md). None of them writes `SESS`,
`OUTCOME`, `MEAS`, `TIMER` or `LENHI`, and none raises an error. -/

namespace Sys2Proof.Machine

/-- BODY.MEAS (R110): `BUF[POS - 4] <- b; ACC <- ACC + zext_16(b); POS <- POS + 1`. -/
def execBodyMeas (b : Byte) (s : State) : Host.Outcome State Fault Refusal :=
  whenSelected (.bodyMeas b) s (s.storeCovered b)

/-- BODY.RSV (R111): the effect of BODY.MEAS on a byte of the reserved field. -/
def execBodyRsv (b : Byte) (s : State) : Host.Outcome State Fault Refusal :=
  whenSelected (.bodyRsv b) s (s.storeCovered b)

/-- CK.HI (R112): `BUF[26] <- b; POS <- 31`; `ACC` is not changed. -/
def execCkHi (b : Byte) (s : State) : Host.Outcome State Fault Refusal :=
  whenSelected (.ckHi b) s { s with buf := memWrite1 s.buf 26 b, pos := 31 }

end Sys2Proof.Machine
end

