-- ==== Sys2Proof/Machine/ChecksumVerifier.lean ====
section
/-! DEFINITION. The Checksum Verifier operations (44_checksum_verifier.md). -/

namespace Sys2Proof.Machine

/-- CK.LO.OK (R120): `MEAS[k] <- {BUF[2k], BUF[2k+1]}` for k = 0..11, then `Finish(OK)`. -/
def execCkLoOk (b : Byte) (s : State) : Host.Outcome State Fault Refusal :=
  whenSelected (.ckLoOk b) s (s.commitMeas.finish .ok)

/-- CK.LO.BAD (R121): `raise ChecksumMismatch; AttemptReset()`. -/
def execCkLoBad (b : Byte) (s : State) : Host.Outcome State Fault Refusal :=
  whenSelected (.ckLoBad b) s (s.raiseError .checksumMismatch)

end Sys2Proof.Machine
end

