-- ==== Sys2Proof/Machine/LengthValidator.lean ====
section
/-! DEFINITION. The Frame Length Validator operations (42_length_validator.md). None of them writes
`SESS`, `OUTCOME`, `MEAS` or `TIMER`. -/

namespace Sys2Proof.Machine

/-- LEN.HI (R100): `LENHI <- b; ACC <- ACC + zext_16(b); POS <- 3`. -/
def execLenHi (b : Byte) (s : State) : Host.Outcome State Fault Refusal :=
  whenSelected (.lenHi b) s { s with lenHi := b, acc := addCovered s.acc b, pos := 3 }

/-- LEN.LO.OK (R101): `ACC <- ACC + 0x001C; POS <- 4`. `LENHI` keeps `0x00`. -/
def execLenLoOk (b : Byte) (s : State) : Host.Outcome State Fault Refusal :=
  whenSelected (.lenLoOk b) s { s with acc := s.acc + 0x001C, pos := 4 }

/-- LEN.LO.BAD (R102): `raise BadFrameLength; AttemptReset()`. -/
def execLenLoBad (b : Byte) (s : State) : Host.Outcome State Fault Refusal :=
  whenSelected (.lenLoBad b) s (s.raiseError .badFrameLength)

end Sys2Proof.Machine
end

