-- ==== Sys2Proof/Machine/Session.lean ====
section
/-! DEFINITION. The Acquisition Session operations (45_session.md). -/

namespace Sys2Proof.Machine

/-- RESET (R130): everything to the values of R25, in any state. -/
def execReset (s : State) : Host.Outcome State Fault Refusal :=
  whenSelected .reset s { s.clearResult.attemptReset with sess := .ready, timer := 0 }

/-- START.RUN (R131): `SESS <- RUNNING; OUTCOME <- NONE; TIMER <- n; MEAS <- 0; AttemptReset()`. -/
def execStartRun (n : Ticks) (s : State) : Host.Outcome State Fault Refusal :=
  whenSelected (.startRun n) s { s.clearResult.attemptReset with sess := .running, timer := n }

/-- START.IGN (R132): `ignore`; `TIMER` is not reloaded. -/
def execStartIgn (n : Ticks) (s : State) : Host.Outcome State Fault Refusal :=
  whenSelected (.startIgn n) s s

/-- TICK.DEC (R133): `TIMER <- TIMER - 1`. -/
def execTickDec (s : State) : Host.Outcome State Fault Refusal :=
  whenSelected .tickDec s { s with timer := s.timer - 1 }

/-- TICK.EXP (R134): `raise Timeout; Finish(TIMEOUT)`. -/
def execTickExp (s : State) : Host.Outcome State Fault Refusal :=
  whenSelected .tickExp s (s.raiseError .timeout)

/-- TICK.IGN (R135): `ignore`. -/
def execTickIgn (s : State) : Host.Outcome State Fault Refusal :=
  whenSelected .tickIgn s s

/-- CANCEL.FIN (R136): `raise Cancelled; Finish(CANCELLED)`. -/
def execCancelFin (s : State) : Host.Outcome State Fault Refusal :=
  whenSelected .cancelFin s (s.raiseError .cancelled)

/-- CANCEL.IGN (R137): `ignore`. -/
def execCancelIgn (s : State) : Host.Outcome State Fault Refusal :=
  whenSelected .cancelIgn s s

/-- IOERR.FIN (R138): `raise IoFailure; Finish(IO_FAILURE)`. -/
def execIoerrFin (s : State) : Host.Outcome State Fault Refusal :=
  whenSelected .ioerrFin s (s.raiseError .ioFailure)

/-- IOERR.IGN (R139): `ignore`. -/
def execIoerrIgn (s : State) : Host.Outcome State Fault Refusal :=
  whenSelected .ioerrIgn s s

/-- BYTE.IGN (R140): `ignore`; the byte is lost. -/
def execByteIgn (b : Byte) (s : State) : Host.Outcome State Fault Refusal :=
  whenSelected (.byteIgn b) s s

/-- NOP (R141): `ignore`, in any state. -/
def execNop (s : State) : Host.Outcome State Fault Refusal :=
  whenSelected .nop s s

end Sys2Proof.Machine
end

