-- ==== Sys2Proof/Machine/Synchronizer.lean ====
section
/-! DEFINITION. The Frame Synchronizer operations (41_synchronizer.md). None of them writes `SESS`,
`OUTCOME`, `MEAS` or `TIMER`. -/

namespace Sys2Proof.Machine

/-- SYN.M1 (R90): `ACC <- ACC + 0x0042; POS <- 1`. -/
def execSynM1 (s : State) : Host.Outcome State Fault Refusal :=
  whenSelected .synM1 s { s with acc := addCovered s.acc Config.mark1, pos := 1 }

/-- SYN.SKIP (R91): `ignore`. -/
def execSynSkip (b : Byte) (s : State) : Host.Outcome State Fault Refusal :=
  whenSelected (.synSkip b) s s

/-- SYN.M2 (R92): `ACC <- ACC + 0x004D; POS <- 2`. -/
def execSynM2 (s : State) : Host.Outcome State Fault Refusal :=
  whenSelected .synM2 s { s with acc := addCovered s.acc Config.mark2, pos := 2 }

/-- SYN.REARM (R93): `AttemptReset(); ACC <- 0x0042; POS <- 1`. -/
def execSynRearm (s : State) : Host.Outcome State Fault Refusal :=
  whenSelected .synRearm s { s.attemptReset with acc := zext16 Config.mark1, pos := 1 }

/-- SYN.DROP (R94): `AttemptReset()`. -/
def execSynDrop (b : Byte) (s : State) : Host.Outcome State Fault Refusal :=
  whenSelected (.synDrop b) s s.attemptReset

end Sys2Proof.Machine
end

