-- ==== Sys2Proof/Machine/Dispatch.lean ====
section
/-! DEFINITION. One arm per operation of the map R68. -/

namespace Sys2Proof.Machine

def exec (i : Instr) (s : State) : Host.Outcome State Fault Refusal :=
  match i with
  | .reset => Sys2Proof.Machine.execReset s
  | .startRun n => Sys2Proof.Machine.execStartRun n s
  | .startIgn n => Sys2Proof.Machine.execStartIgn n s
  | .tickDec => Sys2Proof.Machine.execTickDec s
  | .tickExp => Sys2Proof.Machine.execTickExp s
  | .tickIgn => Sys2Proof.Machine.execTickIgn s
  | .cancelFin => Sys2Proof.Machine.execCancelFin s
  | .cancelIgn => Sys2Proof.Machine.execCancelIgn s
  | .ioerrFin => Sys2Proof.Machine.execIoerrFin s
  | .ioerrIgn => Sys2Proof.Machine.execIoerrIgn s
  | .byteIgn b => Sys2Proof.Machine.execByteIgn b s
  | .nop => Sys2Proof.Machine.execNop s
  | .synM1 => Sys2Proof.Machine.execSynM1 s
  | .synSkip b => Sys2Proof.Machine.execSynSkip b s
  | .synM2 => Sys2Proof.Machine.execSynM2 s
  | .synRearm => Sys2Proof.Machine.execSynRearm s
  | .synDrop b => Sys2Proof.Machine.execSynDrop b s
  | .lenHi b => Sys2Proof.Machine.execLenHi b s
  | .lenLoOk b => Sys2Proof.Machine.execLenLoOk b s
  | .lenLoBad b => Sys2Proof.Machine.execLenLoBad b s
  | .bodyMeas b => Sys2Proof.Machine.execBodyMeas b s
  | .bodyRsv b => Sys2Proof.Machine.execBodyRsv b s
  | .ckHi b => Sys2Proof.Machine.execCkHi b s
  | .ckLoOk b => Sys2Proof.Machine.execCkLoOk b s
  | .ckLoBad b => Sys2Proof.Machine.execCkLoBad b s

end Sys2Proof.Machine
end

