-- ==== Sys2Proof/Machine/Fetch.lean ====
section
/-! DEFINITION. Where the step takes its next event from, and the delivery of events by the
environment. -/

namespace Sys2Proof.Machine

/-- The word of the event NOP (R67). -/
def nopWord : EventWord := 0x000000000

/-- The next event word and the state without it. Where nothing has arrived the event is NOP: "a step
in which nothing arrives" (R26, R27, R141). Log entry 1. -/
def fetch (s : State) : EventWord × State :=
  match s.input with
  | [] => (nopWord, s)
  | w :: ws => (w, { s with input := ws })

/-- The environment delivers events, to be applied after those already delivered (R4, R49). -/
def State.deliver (s : State) (es : List Event) : State :=
  { s with input := s.input ++ es.map encodeEvent }

end Sys2Proof.Machine
end

