-- ==== Sys2Proof/Machine/Step.lean ====
section
/-! DEFINITION. One step: take the next event word, decode it in the state it finds, apply the
operation (00_scope.md R4, 10_state.md R28). -/

namespace Sys2Proof.Machine

/-- One step of the machine. -/
def step (s : State) : Host.Outcome State Fault Refusal :=
  match decode s.ctx (fetch s).1 with
  | .ok i => exec i (fetch s).2
  | .error r => .refused (.malformedEvent r)

/-- The state with a table word as the next event the step takes: it is put before every event already
delivered (log entry 4). -/
def State.withFetchWord (s : State) (nbits w : Nat) : State :=
  { s with input := tableWord nbits w :: s.input }

end Sys2Proof.Machine
end

