-- ==== Sys2Proof/Machine/Flags.lean ====
section
/-! DEFINITION. The outputs that are functions of the state and hold none of their own (10_state.md
R19), and the views of the state the spec names (R13, 30_encoding.md R65). -/

namespace Sys2Proof.Machine

/-- `BUSY = (SESS == RUNNING)` (R19). -/
def State.busy (s : State) : Bool := s.sess == .running

/-- `DONE = (SESS == DONE)` (R19). -/
def State.isDone (s : State) : Bool := s.sess == .done

/-- `MEAS_VALID = (OUTCOME == OK)` (R19). -/
def State.measValid (s : State) : Bool := s.outcome == .ok

/-- `SRC_OPEN = (SESS == RUNNING)`: the block's hold on the byte source (R19, R146). -/
def State.srcOpen (s : State) : Bool := s.sess == .running

/-- The output ports of the clocked realisation (R27). -/
structure Outputs where
  busy : Bool
  done : Bool
  srcOpen : Bool
  outcome : BitVec 3
  measValid : Bool
  meas : Meas
  deriving DecidableEq, Repr

/-- The outputs in a state (R19, R27). Worker-owned state appears at none of them (R24). -/
def State.outputs (s : State) : Outputs where
  busy := s.busy
  done := s.isDone
  srcOpen := s.srcOpen
  outcome := s.outcome.code
  measValid := s.measValid
  meas := s.meas

/-- What the next byte is taken as (R13). -/
def State.stage (s : State) : Stage := stageOf s.pos

/-- A measured quantity by its name (R65). -/
def State.quantity (s : State) (q : Quantity) : Half := s.meas[q.index.val]

end Sys2Proof.Machine
end

