-- ==== Sys2Proof/Machine/Run.lean ====
section
/-! DEFINITION. The spec's step function on one event, and event sequences: a run is a finite event
sequence applied from a given state (00_scope.md R4, R5). -/

namespace Sys2Proof.Machine

/-- `step : Params -> State -> Event -> State` of R4: the operation R68 selects, applied. -/
def applyEvent (e : Event) (s : State) : Host.Outcome State Fault Refusal :=
  exec (select s.ctx e) s

/-- A run: the events applied one at a time, in order (R5, R49). -/
def runEvents : List Event → State → Host.Outcome State Fault Refusal
  | [], s => .next s
  | e :: es, s =>
    match applyEvent e s with
    | .next t => runEvents es t
    | .fault r => .fault r
    | .refused r => .refused r

/-- The operations a run selects, in order: a trace (R72, R161). -/
def traceOf : List Event → State → List Instr
  | [], _ => []
  | e :: es, s =>
    match applyEvent e s with
    | .next t => select s.ctx e :: traceOf es t
    | .fault _ => [select s.ctx e]
    | .refused _ => [select s.ctx e]

end Sys2Proof.Machine
end

