-- ==== Sys2Proof/Machine/Pins.lean ====
section
/-! DEFINITION. The clocked pin-level realisation (10_state.md R27): the inputs sampled at one rising
edge, the events they deliver in their fixed order, and the clock as the composition of the
single-event steps (45_session.md R148). The outputs are `State.outputs`. -/

namespace Sys2Proof.Machine

/-- The input ports, as sampled on one rising edge of `clk` (R27). -/
structure Pins where
  rst : Bool
  start : Bool
  timeoutTicks : Ticks
  cancel : Bool
  tick : Bool
  rxValid : Bool
  rxData : Byte
  rxError : Bool
  deriving DecidableEq, Repr

/-- No input asserted. -/
def Pins.idle : Pins where
  rst := false
  start := false
  timeoutTicks := 0
  cancel := false
  tick := false
  rxValid := false
  rxData := 0
  rxError := false

/-- The events of the asserted inputs, in the order RESET, CANCEL, TICK, IOERR, BYTE, START (R27,
R148). -/
def Pins.asserted (p : Pins) : List Event :=
  (if p.rst then [.reset] else []) ++ (if p.cancel then [.cancel] else []) ++
  (if p.tick then [.tick] else []) ++ (if p.rxError then [.ioerr] else []) ++
  (if p.rxValid then [.byte p.rxData] else []) ++ (if p.start then [.start p.timeoutTicks] else [])

/-- The events of one clock: "a clock in which no input is asserted delivers NOP" (R27). -/
def Pins.events (p : Pins) : List Event :=
  match p.asserted with
  | [] => [.nop]
  | e :: es => e :: es

/-- One clock (R148). -/
def clock (p : Pins) (s : State) : Host.Outcome State Fault Refusal := runEvents p.events s

end Sys2Proof.Machine
end

