-- ==== Sys2Proof/Machine/Frame.lean ====
section
/-! DEFINITION. The wire frame of 32 bytes (30_encoding.md R60 to R66, R73) and the frame builder of
the script notation (R72). -/

namespace Sys2Proof

/-- A sequence of 32 bytes `f[0..31]`, in order of arrival. -/
abbrev Frame := Vector Byte 32

/-- `CK(f) = f[0] + f[1] + ... + f[29]`, in the integers (R64). -/
def Frame.checksum (f : Frame) : Nat := ((f.toList.take 30).map BitVec.toNat).sum

/-- The length field (R60). -/
def Frame.len (f : Frame) : Half := be16 f[2] f[3]

/-- The checksum field `CK` (R60). -/
def Frame.ck (f : Frame) : Half := be16 f[30] f[31]

/-- The reserved field `RSV` (R60, R66). -/
def Frame.rsv (f : Frame) : Half := be16 f[28] f[29]

/-- A well-formed frame (R73). -/
abbrev Frame.WellFormed (f : Frame) : Prop :=
  f[0] = 0x42 ∧ f[1] = 0x4D ∧ f[2] = 0x00 ∧ f[3] = 0x1C ∧
    256 * f[30].toNat + f[31].toNat = f.checksum

/-- The measurement of a frame, `Meas(f)[k] = {f[4 + 2k], f[5 + 2k]}` (R73). -/
def Frame.meas (f : Frame) : Meas :=
  Vector.ofFn fun k => be16 (f[4 + 2 * k.val]'(by omega)) (f[5 + 2 * k.val]'(by omega))

/-- The bytes of a 16-bit value, high first (R72). -/
def halfBytes (v : Half) : List Byte := [highByte v, lowByte v]

/-- The first 30 bytes of a frame with the given fields: the marker, the length and the data (R72). -/
def frameData (m : Meas) (rsv : Half) : List Byte :=
  [0x42, 0x4D, 0x00, 0x1C] ++ m.toList.flatMap halfBytes ++ halfBytes rsv

/-- `FRAME(m0, ..., m11; rsv; ck=X)` (R72). -/
def frameBytesCk (m : Meas) (rsv ck : Half) : List Byte := frameData m rsv ++ halfBytes ck

/-- `FRAME(m0, ..., m11; rsv)`: the checksum is the sum of the preceding 30 bytes (R72). -/
def frameBytes (m : Meas) (rsv : Half) : List Byte :=
  frameBytesCk m rsv (BitVec.ofNat 16 ((frameData m rsv).map BitVec.toNat).sum)

end Sys2Proof
end

