-- ==== Sys2Proof/Machine/Script.lean ====
section
/-! DEFINITION. How the environment's behaviour becomes events: the byte source's read primitive
(20_memory.md R42), the script notation (30_encoding.md R72) and the one call the source has. -/

namespace Sys2Proof.Machine

/-- What the source's read of N bytes does (R42). -/
inductive ReadResult where
  /-- It returns these bytes: all N, or fewer (a short read). -/
  | returned (bs : List Byte)
  /-- It raises an I/O error. -/
  | ioError
  /-- It blocks for ever: the sensor is silent. -/
  | blocks
  deriving DecidableEq, Repr

/-- The events the block sees of a read of `n` bytes (R42): the bytes, then NOP after a short read; one
IOERR for an error; nothing where the read blocks. -/
def readEvents (n : Nat) : ReadResult → List Event
  | .returned bs => bs.map .byte ++ (if bs.length < n then [.nop] else [])
  | .ioError => [.ioerr]
  | .blocks => []

/-- The items of a test script (R72). -/
inductive ScriptItem where
  /-- RESET, START n, a byte, TICK, CANCEL, IOERR or NOP. -/
  | event (e : Event)
  /-- `TICK*m`. -/
  | ticks (m : Nat)
  /-- `FRAME(m0, ..., m11; rsv)`. -/
  | frame (m : Meas) (rsv : Half)
  /-- `FRAME(m0, ..., m11; rsv; ck=X)`. -/
  | frameCk (m : Meas) (rsv ck : Half)
  /-- `READ(N) -> k`, with the bytes that are read. -/
  | read (n : Nat) (r : ReadResult)
  deriving DecidableEq, Repr

/-- The expansion of an item (R72). -/
def ScriptItem.expand : ScriptItem → List Event
  | .event e => [e]
  | .ticks m => List.replicate m .tick
  | .frame m rsv => (frameBytes m rsv).map .byte
  | .frameCk m rsv ck => (frameBytesCk m rsv ck).map .byte
  | .read n r => readEvents n r

/-- The events of a script, left to right (R72). -/
def expandScript (items : List ScriptItem) : List Event := items.flatMap ScriptItem.expand

/-- The result of a run at the first state with `SESS = DONE`; none while the session runs on. -/
def firstDone : List Event → State → Option (SessionOutcome × Meas)
  | [], s => if s.sess = .done then some (s.outcome, s.meas) else none
  | e :: es, s =>
    if s.sess = .done then some (s.outcome, s.meas)
    else
      match applyEvent e s with
      | .next t => firstDone es t
      | .fault _ => none
      | .refused _ => none

/-- `acquire(S, n, c)` (R72): START n, then the bytes of the stream with TICK and CANCEL among them; the
result is (`OUTCOME`, `MEAS`) at the first state with `SESS = DONE`. -/
def acquire (n : Ticks) (es : List Event) (s : State) : Option (SessionOutcome × Meas) :=
  match applyEvent (.start n) s with
  | .next t => firstDone es t
  | .fault _ => none
  | .refused _ => none

end Sys2Proof.Machine
end

