-- ==== Sys2Proof/Machine/Table.lean ====
section
/-! DEFINITION. The `match` and `mask` columns of spec/opcode_table.json, row by row: an event word `w`
fits a row when `w & mask == match` (30_encoding.md R67). The decoder and the encoder do not use them;
they are held against them. -/

namespace Sys2Proof

/-- The `mask` of an operation's row. -/
def tableMask : Instr → EventWord
  | .reset => 0x7FFFFFFFF
  | .startRun _ => 0x700000000
  | .startIgn _ => 0x700000000
  | .tickDec => 0x7FFFFFFFF
  | .tickExp => 0x7FFFFFFFF
  | .tickIgn => 0x7FFFFFFFF
  | .cancelFin => 0x7FFFFFFFF
  | .cancelIgn => 0x7FFFFFFFF
  | .ioerrFin => 0x7FFFFFFFF
  | .ioerrIgn => 0x7FFFFFFFF
  | .byteIgn _ => 0x7FFFFFF00
  | .nop => 0x7FFFFFFFF
  | .synM1 => 0x7FFFFFFFF
  | .synSkip _ => 0x7FFFFFF00
  | .synM2 => 0x7FFFFFFFF
  | .synRearm => 0x7FFFFFFFF
  | .synDrop _ => 0x7FFFFFF00
  | .lenHi _ => 0x7FFFFFF00
  | .lenLoOk _ => 0x7FFFFFF00
  | .lenLoBad _ => 0x7FFFFFF00
  | .bodyMeas _ => 0x7FFFFFF00
  | .bodyRsv _ => 0x7FFFFFF00
  | .ckHi _ => 0x7FFFFFF00
  | .ckLoOk _ => 0x7FFFFFF00
  | .ckLoBad _ => 0x7FFFFFF00

/-- The `match` of an operation's row. -/
def tableMatch : Instr → EventWord
  | .reset => 0x600000000
  | .startRun _ => 0x500000000
  | .startIgn _ => 0x500000000
  | .tickDec => 0x300000000
  | .tickExp => 0x300000000
  | .tickIgn => 0x300000000
  | .cancelFin => 0x400000000
  | .cancelIgn => 0x400000000
  | .ioerrFin => 0x200000000
  | .ioerrIgn => 0x200000000
  | .byteIgn _ => 0x100000000
  | .nop => 0x000000000
  | .synM1 => 0x100000042
  | .synSkip _ => 0x100000000
  | .synM2 => 0x10000004D
  | .synRearm => 0x100000042
  | .synDrop _ => 0x100000000
  | .lenHi _ => 0x100000000
  | .lenLoOk _ => 0x100000000
  | .lenLoBad _ => 0x100000000
  | .bodyMeas _ => 0x100000000
  | .bodyRsv _ => 0x100000000
  | .ckHi _ => 0x100000000
  | .ckLoOk _ => 0x100000000
  | .ckLoBad _ => 0x100000000

end Sys2Proof
end

