-- ==== Sys2Proof/Safety.lean ====
section
/-! DEFINITION. The terms claims are stated in: the invariants of 10_state.md R21, the classes of
operations that may write an element (60_exceptions.md R172), malformed words, and the vocabulary of
the scan, of event sequences and of time. -/

namespace Sys2Proof.Machine

/-- The next state of an outcome, if it is one. -/
def nextOf : Host.Outcome State Fault Refusal → Option State
  | .next t => some t
  | .fault _ => none
  | .refused _ => none

/-- The sum of the first `n` body bytes, in the integers. -/
def bufSum (buf : Buf) (n : Nat) : Nat := ((buf.toList.take n).map BitVec.toNat).sum

/-- The exact sum of the bytes consumed in this attempt at frame offsets `0 .. min(POS, 30) - 1`, by
the cases of I7 (R21). -/
def coveredSum (s : State) : Nat :=
  if s.pos.toNat = 0 then 0
  else if s.pos.toNat = 1 then 0x42
  else if s.pos.toNat = 2 then 0x8F
  else if s.pos.toNat = 3 then 0x8F + s.lenHi.toNat
  else 0xAB + bufSum s.buf (min (s.pos.toNat - 4) 26)

/-- The invariants I1 to I8 and I10 of R21, as far as they speak of one state (I5 holds by the types;
I9, and the halves of I8 and I10 that name a consumed byte, speak of the past). -/
structure Inv (s : State) : Prop where
  /-- I1. -/
  idle : s.sess ≠ .running →
    s.pos = 0 ∧ s.acc = 0 ∧ s.lenHi = 0 ∧ s.buf = zeroBuf ∧ s.timer = 0
  /-- I2. -/
  running : s.sess = .running → s.outcome = .none ∧ s.meas = zeroMeas
  /-- I3. -/
  ready : s.sess = .ready → s.outcome = .none ∧ s.meas = zeroMeas
  /-- I4. -/
  done : s.sess = .done ↔ s.outcome ≠ .none
  /-- I6. -/
  meas : s.outcome ≠ .ok → s.meas = zeroMeas
  /-- I7. -/
  acc : s.acc.toNat = coveredSum s
  /-- I8. -/
  lenHi : s.pos.toNat ≠ 3 → s.lenHi = 0
  /-- I10. -/
  buf : ∀ (i : Nat) (h : i < 28), s.pos.toNat ≤ i + 4 → s.buf[i] = 0

/-- The operations of the pipeline: a BYTE event in a running session selects one of them. -/
def isPipeline : Instr → Bool
  | .synM1 => true
  | .synSkip _ => true
  | .synM2 => true
  | .synRearm => true
  | .synDrop _ => true
  | .lenHi _ => true
  | .lenLoOk _ => true
  | .lenLoBad _ => true
  | .bodyMeas _ => true
  | .bodyRsv _ => true
  | .ckHi _ => true
  | .ckLoOk _ => true
  | .ckLoBad _ => true
  | .reset => false
  | .startRun _ => false
  | .startIgn _ => false
  | .tickDec => false
  | .tickExp => false
  | .tickIgn => false
  | .cancelFin => false
  | .cancelIgn => false
  | .ioerrFin => false
  | .ioerrIgn => false
  | .byteIgn _ => false
  | .nop => false

/-- The four operations that perform `Finish` (R23). -/
def isFinish (i : Instr) : Bool :=
  match i with
  | .ckLoOk _ => true
  | .ioerrFin => true
  | .tickExp => true
  | .cancelFin => true
  | _ => false

/-- The two operations of the host that change the session: RESET and START.RUN. -/
def isHostStart (i : Instr) : Bool :=
  match i with
  | .reset => true
  | .startRun _ => true
  | _ => false

/-- A word that is no event (R67): kind 7; a non-zero operand for NOP, IOERR, TICK, CANCEL and RESET; a
non-zero `operand[31:8]` for BYTE. -/
abbrev MalformedWord (w : EventWord) : Prop :=
  w.toNat / 2 ^ 32 = 7 ∨
  ((w.toNat / 2 ^ 32 = 0 ∨ w.toNat / 2 ^ 32 = 2 ∨ w.toNat / 2 ^ 32 = 3 ∨ w.toNat / 2 ^ 32 = 4 ∨
    w.toNat / 2 ^ 32 = 6) ∧ w.toNat % 2 ^ 32 ≠ 0) ∨
  (w.toNat / 2 ^ 32 = 1 ∧ 256 ≤ w.toNat % 2 ^ 32)

/-- The BYTE events of a byte sequence, in order of arrival. -/
def byteEvents (bs : List Byte) : List Event := bs.map .byte

/-- The bytes of an event sequence, in order. -/
def bytesIn (es : List Event) : List Byte := es.filterMap Event.byte?

/-- The number of TICK events of a sequence. -/
def ticksIn (es : List Event) : Nat := es.count .tick

/-- Neither START nor RESET: an event that cannot begin a session or cut one. -/
def notHost : Event → Bool
  | .reset => false
  | .start _ => false
  | .byte _ => true
  | .ioerr => true
  | .tick => true
  | .cancel => true
  | .nop => true

/-- An event that can stand between the bytes of an attempt without ending the session by itself. -/
def isQuiet : Event → Bool
  | .byte _ => true
  | .tick => true
  | .nop => true
  | .reset => false
  | .start _ => false
  | .ioerr => false
  | .cancel => false

/-- `0x42` immediately followed by `0x4D` occurs in the sequence. -/
def hasMarker : List Byte → Bool
  | [] => false
  | [_] => false
  | a :: b :: bs => (a == 0x42 && b == 0x4D) || hasMarker (b :: bs)

/-- The length of the run of `0x42` bytes that ends the sequence, given the length of the run before
it. -/
def trailingRunFrom (n : Nat) : List Byte → Nat
  | [] => n
  | b :: bs => trailingRunFrom (if b = 0x42 then n + 1 else 0) bs

/-- The length of the run of `0x42` bytes that ends the sequence. -/
def trailingRun (bs : List Byte) : Nat := trailingRunFrom 0 bs

/-- Every `0x4D` of the sequence follows a run of `0x42` bytes of even length: with `REARM = 0` each of
them is missed (R96 (b)). -/
def NoOddMarker (bs : List Byte) : Prop :=
  ∀ p q : List Byte, bs = p ++ 0x4D :: q → trailingRun p % 2 = 0

/-- The step opens the byte source: `SRC_OPEN` rises (R19). -/
def opensSource (s t : State) : Prop := s.srcOpen = false ∧ t.srcOpen = true

/-- The step closes the byte source: `SRC_OPEN` falls (R19). -/
def closesSource (s t : State) : Prop := s.srcOpen = true ∧ t.srcOpen = false

/-- The states differ in `BUF` only, and not in a body byte of this attempt: the second may hold stale
bytes of earlier frames where the first holds zero (D8). -/
def sameButStaleBuf (s t : State) : Prop :=
  t = { s with buf := t.buf } ∧
  ∀ (i : Nat) (h : i < 28), i + 4 < s.pos.toNat → s.buf[i] = t.buf[i]

/-- The real time from START to the `k`-th TICK after it, where the first TICK comes `phase` after START
and the tick source keeps its period (R134, R201). -/
def tickTime (phase k : Nat) : Nat := phase + (k - 1) * (Config.tickPeriod : Nat)

end Sys2Proof.Machine
end

