-- ==== Sys2Proof/Certificates/Slice0/Obligations.lean ====
section
/-! DEFINITION. The statements for the provers. Each docstring names the rules of spec/ the statement
formalises. "Inv" is the conjunction of the invariants of 10_state.md R21 (Safety.lean). Where a next
state is written `{ s with ... }`, every element not named is unchanged: that is the statement's frame. It
covers the two fields that are the model's own, `params` (log entry 2) and `input` (log entry 1), which
no operation writes. -/

open Sys2Proof Sys2Proof.Machine

/-! ### Reset -/

/-- R25, R130: the machine after power-on has every element at its reset value, and RESET takes any state
there. -/
def Obligations.ResetStateHoldsTheResetValues : Prop :=
  (State.reset.sess = .ready ∧ State.reset.outcome = .none ∧ State.reset.pos = 0 ∧
    State.reset.acc = 0x0000 ∧ State.reset.lenHi = 0x00 ∧
    (∀ (i : Nat) (h : i < 28), State.reset.buf[i] = 0x00) ∧
    (∀ (k : Nat) (h : k < 12), State.reset.meas[k] = 0x0000) ∧ State.reset.timer = 0) ∧
  ∀ s : State, exec .reset s =
    .next { State.reset with params := s.params, input := s.input }

/-- I1 to I8 and I10 of R21 hold after reset. -/
def Obligations.ResetStateMeetsTheInvariants : Prop := Inv State.reset

/-! ### The step and the encoding -/

/-- Every step keeps the invariants of R21, from every state that has them. -/
def Obligations.EveryStepKeepsTheInvariants : Prop :=
  ∀ s t : State, Inv s → step s = .next t → Inv t

/-- R4: a step applies the operation the next event word decodes to, in the state without that word; a
step that finds no word applies NOP. The word list is the model's own (log entry 1). -/
def Obligations.StepRunsTheDecodedOperation : Prop :=
  (∀ (s : State) (w : EventWord) (ws : List EventWord) (i : Instr),
    s.input = w :: ws → decode s.ctx w = .ok i → step s = exec i { s with input := ws }) ∧
  (∀ s : State, s.input = [] → step s = exec .nop s ∧ step s = .next s)

/-- R28: the step is total on events. It is refused exactly on a word that is no event, and gives a next
state in every other state; there is no fault. -/
def Obligations.StepIsTotalOnWellFormedEvents : Prop :=
  (∀ (s : State) (w : EventWord) (ws : List EventWord), s.input = w :: ws → MalformedWord w →
    ∃ r, step s = .refused (.malformedEvent r)) ∧
  (∀ s : State, (∀ w ws, s.input = w :: ws → ¬ MalformedWord w) → ∃ t, step s = .next t)

/-- R67: the event word is `{kind, operand}` with the kind codes of the table; the operand is `n` for
START, the byte for BYTE and zero otherwise. -/
def Obligations.EventWordLayout : Prop :=
  (encodeEvent .nop).toNat = 0 * 2 ^ 32 ∧
  (∀ b : Byte, (encodeEvent (.byte b)).toNat = 1 * 2 ^ 32 + b.toNat) ∧
  (encodeEvent .ioerr).toNat = 2 * 2 ^ 32 ∧
  (encodeEvent .tick).toNat = 3 * 2 ^ 32 ∧
  (encodeEvent .cancel).toNat = 4 * 2 ^ 32 ∧
  (∀ n : Ticks, (encodeEvent (.start n)).toNat = 5 * 2 ^ 32 + n.toNat) ∧
  (encodeEvent .reset).toNat = 6 * 2 ^ 32

/-- R67: code 7 and non-zero unused operand bits are rejected, and nothing else is; every event is read
back from its word, and a word that is read is the word of that event. -/
def Obligations.EventWordsRoundTrip : Prop :=
  (∀ e : Event, decodeEvent (encodeEvent e) = .ok e) ∧
  (∀ (w : EventWord) (e : Event), decodeEvent w = .ok e → encodeEvent e = w) ∧
  (∀ w : EventWord, (∃ r, decodeEvent w = .error r) ↔ MalformedWord w)

/-- Every well-formed operation is selected in some state, and in every state in which its row of R68
fits, its own word decodes to it with every operand. -/
def Obligations.DecodeOfEncodeIsTheOperation : Prop :=
  (∀ i : Instr, i.wellFormed = true → ∃ c : Ctx, rowFits c i = true) ∧
  (∀ (c : Ctx) (i : Instr), rowFits c i = true → decode c (encode i) = .ok i)

/-- What the decoder answers is an operation whose word it was given, whose row of R68 fits the state,
and which is well formed. -/
def Obligations.DecodedOperationFitsItsRow : Prop :=
  ∀ (c : Ctx) (w : EventWord) (i : Instr), decode c w = .ok i →
    encode i = w ∧ rowFits c i = true ∧ i.wellFormed = true

/-- R28, R68: for each event and each state exactly one operation's row fits: the rows overlap nowhere
and leave no case out. -/
def Obligations.ExactlyOneOperationPerEventAndState : Prop :=
  ∀ (c : Ctx) (e : Event), ∃ i : Instr, (i.event = e ∧ rowFits c i = true) ∧
    ∀ j : Instr, j.event = e → rowFits c j = true → j = i

/-- R68, rows 1 to 12: the operation each event selects by `SESS` and `TIMER`. -/
def Obligations.OperationMapOfTheSession : Prop :=
  ∀ c : Ctx,
    select c .reset = .reset ∧ select c .nop = .nop ∧
    (c.sess = .ready ∨ c.sess = .done →
      (∀ n, select c (.start n) = .startRun n) ∧ select c .tick = .tickIgn ∧
      select c .cancel = .cancelIgn ∧ select c .ioerr = .ioerrIgn ∧
      ∀ b, select c (.byte b) = .byteIgn b) ∧
    (c.sess = .running →
      (∀ n, select c (.start n) = .startIgn n) ∧
      (c.timer ≠ 0 → select c .tick = .tickDec) ∧ (c.timer = 0 → select c .tick = .tickExp) ∧
      select c .cancel = .cancelFin ∧ select c .ioerr = .ioerrFin)

/-- R68, rows 13 to 25: the operation a byte selects in a running session, by `POS`, the byte and the
guard. -/
def Obligations.OperationMapOfTheBytes : Prop :=
  ∀ (c : Ctx) (b : Byte), c.sess = .running →
    (c.pos.toNat = 0 → select c (.byte b) = if b = 0x42 then .synM1 else .synSkip b) ∧
    (c.pos.toNat = 1 → b = 0x4D → select c (.byte b) = .synM2) ∧
    (c.pos.toNat = 1 → b = 0x42 →
      select c (.byte b) = if c.rearm = true then .synRearm else .synDrop b) ∧
    (c.pos.toNat = 1 → b ≠ 0x4D → b ≠ 0x42 → select c (.byte b) = .synDrop b) ∧
    (c.pos.toNat = 2 → select c (.byte b) = .lenHi b) ∧
    (c.pos.toNat = 3 → select c (.byte b) =
      if 256 * c.lenHi.toNat + b.toNat = 28 then .lenLoOk b else .lenLoBad b) ∧
    (4 ≤ c.pos.toNat → c.pos.toNat ≤ 27 → select c (.byte b) = .bodyMeas b) ∧
    (28 ≤ c.pos.toNat → c.pos.toNat ≤ 29 → select c (.byte b) = .bodyRsv b) ∧
    (c.pos.toNat = 30 → select c (.byte b) = .ckHi b) ∧
    (c.pos.toNat = 31 → select c (.byte b) =
      if c.acc.toNat = 256 * c.ckHi.toNat + b.toNat then .ckLoOk b else .ckLoBad b)

/-- R67 and spec/opcode_table.json: a word that decodes to an operation fits that operation's row of the
table, `w & mask == match`. -/
def Obligations.DecodedWordsFitTheOpcodeTable : Prop :=
  ∀ (c : Ctx) (w : EventWord) (i : Instr), decode c w = .ok i → w &&& tableMask i = tableMatch i

/-- Words of 95_test_vectors.md section 8 (`1:00000042` and so on) written out, and what they decode to
in the state named. -/
def Obligations.WordsOfTheSpecDecode : Prop :=
  decode Ctx.afterReset 0x600000000 = .ok .reset ∧
  decode Ctx.afterReset 0x500000005 = .ok (.startRun 5) ∧
  decode { Ctx.afterReset with sess := .running } 0x100000042 = .ok .synM1 ∧
  decode { Ctx.afterReset with sess := .running, pos := 1 } 0x10000004D = .ok .synM2 ∧
  decode { Ctx.afterReset with sess := .running, pos := 3 } 0x10000001C = .ok (.lenLoOk 0x1C) ∧
  decode { Ctx.afterReset with sess := .running, pos := 5 } 0x10000000A = .ok (.bodyMeas 0x0A) ∧
  decode { Ctx.afterReset with sess := .running, pos := 31, acc := 0x03B7, ckHi := 0x03 }
    0x1000000B7 = .ok (.ckLoOk 0xB7) ∧
  decode { Ctx.afterReset with sess := .running, timer := 2 } 0x300000000 = .ok .tickDec ∧
  decode { Ctx.afterReset with sess := .running } 0x300000000 = .ok .tickExp

/-! ### The session operations -/

/-- R131: START.RUN sets every element; `BUSY` and `SRC_OPEN` are 1 and `DONE` and `MEAS_VALID` are 0
after it. -/
def Obligations.StartBeginsASession : Prop :=
  ∀ (s : State) (n : Ticks), s.sess = .ready ∨ s.sess = .done →
    ∃ t, exec (.startRun n) s = .next t ∧
      t = { s with
        sess := .running, outcome := .none, timer := n, meas := Vector.replicate 12 0
        pos := 0, acc := 0, lenHi := 0, buf := Vector.replicate 28 0 } ∧
      t.busy = true ∧ t.srcOpen = true ∧ t.isDone = false ∧ t.measValid = false

/-- R132, R135, R137, R139, R140, R141: the ignoring operations change no element. -/
def Obligations.IgnoringOperationsChangeNothing : Prop :=
  ∀ s : State,
    exec .nop s = .next s ∧
    (s.sess = .running → ∀ n, exec (.startIgn n) s = .next s) ∧
    (s.sess = .ready ∨ s.sess = .done →
      exec .tickIgn s = .next s ∧ exec .cancelIgn s = .next s ∧ exec .ioerrIgn s = .next s ∧
      ∀ b, exec (.byteIgn b) s = .next s)

/-- R133: `TIMER` is one less and nothing else changes. -/
def Obligations.TickCountsDown : Prop :=
  ∀ s : State, s.sess = .running → s.timer ≠ 0 →
    ∃ t, exec .tickDec s = .next t ∧ t.timer.toNat + 1 = s.timer.toNat ∧
      t = { s with timer := t.timer }

/-- R134, R165: the TICK that finds `TIMER` zero ends the session with TIMEOUT and no partial data. -/
def Obligations.TickAtZeroTimesOut : Prop :=
  raised .tickExp = some .timeout ∧
  ∀ s : State, s.sess = .running → s.timer = 0 →
    ∃ t, exec .tickExp s = .next t ∧
      t = { s with
        outcome := .timeout, sess := .done, timer := 0
        pos := 0, acc := 0, lenHi := 0, buf := Vector.replicate 28 0 } ∧
      t.isDone = true ∧ t.busy = false ∧ t.srcOpen = false

/-- R136, R166: CANCEL ends a running session at every `POS`. -/
def Obligations.CancelEndsTheSession : Prop :=
  raised .cancelFin = some .cancelled ∧
  ∀ s : State, s.sess = .running →
    ∃ t, exec .cancelFin s = .next t ∧
      t = { s with
        outcome := .cancelled, sess := .done, timer := 0
        pos := 0, acc := 0, lenHi := 0, buf := Vector.replicate 28 0 } ∧
      t.isDone = true ∧ t.busy = false ∧ t.srcOpen = false

/-- R138, R164, R95: IOERR ends a running session at every `POS`, the marker scan included. -/
def Obligations.ReadErrorEndsTheSession : Prop :=
  raised .ioerrFin = some .ioFailure ∧
  ∀ s : State, s.sess = .running →
    ∃ t, exec .ioerrFin s = .next t ∧
      t = { s with
        outcome := .ioFailure, sess := .done, timer := 0
        pos := 0, acc := 0, lenHi := 0, buf := Vector.replicate 28 0 } ∧
      t.isDone = true ∧ t.busy = false ∧ t.srcOpen = false

/-! ### The byte operations -/

/-- R90, R92: the two marker bytes are added to `ACC` and move `POS` to 1 and to 2. -/
def Obligations.MarkerBytesAreCounted : Prop :=
  (∀ s : State, s.sess = .running → s.pos = 0 →
    exec .synM1 s = .next { s with acc := s.acc + 0x0042, pos := 1 }) ∧
  (∀ s : State, s.sess = .running → s.pos = 1 →
    exec .synM2 s = .next { s with acc := s.acc + 0x004D, pos := 2 })

/-- R91: a byte that is no first marker leaves the state as it is. -/
def Obligations.NoiseIsSkipped : Prop :=
  ∀ (s : State) (b : Byte), s.sess = .running → s.pos = 0 → b ≠ 0x42 →
    exec (.synSkip b) s = .next s

/-- R93: with `REARM = 1` a second `0x42` starts a new attempt; where the invariants of R21 hold the
state after the step is the state before it. -/
def Obligations.SecondFirstMarkerRearms : Prop :=
  ∀ s : State, s.sess = .running → s.pos = 1 → s.params.rearm = true →
    exec .synRearm s = .next { s with
      pos := 1, acc := 0x0042, lenHi := 0, buf := Vector.replicate 28 0 } ∧
    (Inv s → exec .synRearm s = .next s)

/-- R94: a byte that breaks the marker sequence returns to Idle; with `REARM = 0` so does `0x42`. -/
def Obligations.BrokenMarkerDrops : Prop :=
  ∀ (s : State) (b : Byte), s.sess = .running → s.pos = 1 → b ≠ 0x4D →
    (b = 0x42 → s.params.rearm = false) →
    exec (.synDrop b) s = .next { s with
      pos := 0, acc := 0, lenHi := 0, buf := Vector.replicate 28 0 }

/-- R100: the first length byte is kept in `LENHI` and added to `ACC`. -/
def Obligations.FirstLengthByte : Prop :=
  ∀ (s : State) (b : Byte), s.sess = .running → s.pos = 2 →
    ∃ t, exec (.lenHi b) s = .next t ∧ t.lenHi = b ∧ t.pos = 3 ∧
      t.acc.toNat = (s.acc.toNat + b.toNat) % 2 ^ 16 ∧
      t = { s with lenHi := t.lenHi, acc := t.acc, pos := t.pos }

/-- R101: length 28 is accepted; `ACC` gains `0x1C`, and `LENHI` and `BUF` are kept. Where the invariants
of R21 hold, `ACC` is then `0x00AB`. -/
def Obligations.LengthTwentyEightPasses : Prop :=
  ∀ s : State, s.sess = .running → s.pos = 3 → s.lenHi = 0x00 →
    exec (.lenLoOk 0x1C) s = .next { s with acc := s.acc + 0x001C, pos := 4 } ∧
    (Inv s → s.acc + 0x001C = 0x00AB)

/-- R102, R162: any other length restarts the scan, at the second length byte, and the session goes on. -/
def Obligations.OtherLengthsRestartTheScan : Prop :=
  (∀ b, raised (.lenLoBad b) = some .badFrameLength) ∧
  ∀ (s : State) (b : Byte), s.sess = .running → s.pos = 3 →
    256 * s.lenHi.toNat + b.toNat ≠ 28 →
    exec (.lenLoBad b) s = .next { s with
      pos := 0, acc := 0, lenHi := 0, buf := Vector.replicate 28 0 }

/-- R110, R111: a data byte goes to `BUF[POS - 4]`, is added to `ACC` and advances `POS`; the reserved
field's bytes are treated alike. -/
def Obligations.DataBytesAreStoredAndCounted : Prop :=
  ∀ (s : State) (b : Byte) (i : Instr), s.sess = .running →
    (i = .bodyMeas b ∧ 4 ≤ s.pos.toNat ∧ s.pos.toNat ≤ 27) ∨
      (i = .bodyRsv b ∧ 28 ≤ s.pos.toNat ∧ s.pos.toNat ≤ 29) →
    ∃ t, exec i s = .next t ∧ t.pos.toNat = s.pos.toNat + 1 ∧
      t.acc.toNat = (s.acc.toNat + b.toNat) % 2 ^ 16 ∧
      (∀ (j : Nat) (h : j < 28), t.buf[j] = if j = s.pos.toNat - 4 then b else s.buf[j]) ∧
      t = { s with buf := t.buf, acc := t.acc, pos := t.pos }

/-- R112: the high checksum byte is stored and not added. -/
def Obligations.HighChecksumByteIsNotCounted : Prop :=
  ∀ (s : State) (b : Byte), s.sess = .running → s.pos = 30 →
    ∃ t, exec (.ckHi b) s = .next t ∧ t.pos = 31 ∧
      (∀ (j : Nat) (h : j < 28), t.buf[j] = if j = 26 then b else s.buf[j]) ∧
      t = { s with buf := t.buf, pos := t.pos }

/-- R120: on a match all twelve registers take the fields of the body as it was before the step, and the
session ends with OK. -/
def Obligations.MatchingChecksumDelivers : Prop :=
  ∀ (s : State) (b : Byte), s.sess = .running → s.pos = 31 →
    s.acc.toNat = 256 * s.buf[26].toNat + b.toNat →
    ∃ t, exec (.ckLoOk b) s = .next t ∧
      (∀ (k : Nat) (h : k < 12),
        t.meas[k].toNat = 256 * s.buf[2 * k].toNat + s.buf[2 * k + 1].toNat) ∧
      t = { s with
        meas := t.meas, outcome := .ok, sess := .done, timer := 0
        pos := 0, acc := 0, lenHi := 0, buf := Vector.replicate 28 0 } ∧
      t.isDone = true ∧ t.busy = false ∧ t.srcOpen = false ∧ t.measValid = true

/-- R121, R163: on a mismatch the whole attempt is discarded and the session goes on. -/
def Obligations.WrongChecksumRestartsTheScan : Prop :=
  (∀ b, raised (.ckLoBad b) = some .checksumMismatch) ∧
  ∀ (s : State) (b : Byte), s.sess = .running → s.pos = 31 →
    s.acc.toNat ≠ 256 * s.buf[26].toNat + b.toNat →
    exec (.ckLoBad b) s = .next { s with
      pos := 0, acc := 0, lenHi := 0, buf := Vector.replicate 28 0 }

/-- The model's own choice (log entry 3): an operation is refused, by name, exactly in the states in
which its row of R68 does not fit, and gives a next state in all others. -/
def Obligations.UnselectedOperationsAreRefused : Prop :=
  ∀ (i : Instr) (s : State),
    (rowFits s.ctx i = true → ∃ t, exec i s = .next t) ∧
    (rowFits s.ctx i = false → exec i s = .refused .notSelected)

/-! ### Rules of the whole machine -/

/-- R161, R169, R170: the codes and classes of the five error kinds, the one operation that raises each
(five operations raise an error and no other does, SYN.DROP among the others), and the effect of every
operation that raises one: recoverable kinds restart the scan and record nothing, the others end the
session and record the kind in `OUTCOME` only. -/
def Obligations.RaisedErrorsHaveTheEffectOfTheirClass : Prop :=
  (ErrKind.ioFailure.code = 2 ∧ ErrKind.timeout.code = 3 ∧ ErrKind.cancelled.code = 4 ∧
    ErrKind.badFrameLength.code = 5 ∧ ErrKind.checksumMismatch.code = 6) ∧
  (ErrKind.ioFailure.cls = .fatal ∧ ErrKind.timeout.cls = .sessionLevel ∧
    ErrKind.cancelled.cls = .sessionLevel ∧ ErrKind.badFrameLength.cls = .recoverable ∧
    ErrKind.checksumMismatch.cls = .recoverable) ∧
  (∀ (i : Instr) (k : ErrKind), raised i = some k ↔
    (i = .ioerrFin ∧ k = .ioFailure) ∨ (i = .tickExp ∧ k = .timeout) ∨
    (i = .cancelFin ∧ k = .cancelled) ∨ ((∃ b, i = .lenLoBad b) ∧ k = .badFrameLength) ∨
    ((∃ b, i = .ckLoBad b) ∧ k = .checksumMismatch)) ∧
  ∀ (i : Instr) (k : ErrKind) (s t : State), raised i = some k → exec i s = .next t →
    s.sess = .running ∧
    (k.cls = .recoverable → k.becomesOutcome = none ∧ t = { s with
      pos := 0, acc := 0, lenHi := 0, buf := Vector.replicate 28 0 }) ∧
    (k.cls ≠ .recoverable → ∃ o, k.becomesOutcome = some o ∧ o.code = k.code ∧ t = { s with
      outcome := o, sess := .done, timer := 0
      pos := 0, acc := 0, lenHi := 0, buf := Vector.replicate 28 0 })

/-- R11: the codes of `SESS`; outside RUNNING the events BYTE, IOERR, TICK and CANCEL have no effect;
`SESS` becomes RUNNING only by an accepted START, DONE only from RUNNING by `Finish`, READY only by
RESET. -/
def Obligations.SessionStatusTransitions : Prop :=
  (Sess.ready.code = 0 ∧ Sess.running.code = 1 ∧ Sess.done.code = 2 ∧ ∀ x : Sess, x.code ≠ 3) ∧
  (∀ (s : State) (e : Event), s.sess ≠ .running →
    (∃ b, e = .byte b) ∨ e = .ioerr ∨ e = .tick ∨ e = .cancel → applyEvent e s = .next s) ∧
  (∀ (i : Instr) (s t : State), exec i s = .next t → t.sess ≠ s.sess →
    (t.sess = .running → ∃ n, i = .startRun n) ∧
    (t.sess = .done → s.sess = .running ∧ isFinish i = true) ∧
    (t.sess = .ready → i = .reset))

/-- R12: the codes of `OUTCOME`, and the operation that gives it each value: NONE by RESET and START.RUN,
OK by CK.LO.OK, IO_FAILURE by IOERR.FIN, TIMEOUT by TICK.EXP, CANCELLED by CANCEL.FIN. -/
def Obligations.OutcomeCodesAndCauses : Prop :=
  (SessionOutcome.none.code = 0 ∧ SessionOutcome.ok.code = 1 ∧ SessionOutcome.ioFailure.code = 2 ∧
    SessionOutcome.timeout.code = 3 ∧ SessionOutcome.cancelled.code = 4 ∧
    ∀ x : SessionOutcome, x.code.toNat ≤ 4) ∧
  ∀ (i : Instr) (s t : State), exec i s = .next t → t.outcome ≠ s.outcome →
    (t.outcome = .none → isHostStart i = true) ∧ (t.outcome = .ok → ∃ b, i = .ckLoOk b) ∧
    (t.outcome = .ioFailure → i = .ioerrFin) ∧ (t.outcome = .timeout → i = .tickExp) ∧
    (t.outcome = .cancelled → i = .cancelFin)

/-- R13: every byte operation advances `POS` by one, leaves it (SYN.SKIP, SYN.REARM) or sets it to 0,
and no advance goes past 31. -/
def Obligations.PositionAdvancesStaysOrReturns : Prop :=
  ∀ (i : Instr) (s t : State), isPipeline i = true → exec i s = .next t →
    t.pos.toNat = s.pos.toNat + 1 ∨
    (t.pos = s.pos ∧ ((∃ b, i = .synSkip b) ∨ i = .synRearm)) ∨
    t.pos = 0

/-- R172, R24: who may write what. Only byte operations, RESET, START.RUN and the operations that
perform `Finish` write `POS`, `ACC`, `LENHI`, `BUF`; only START.RUN, TICK.DEC, RESET and `Finish` write
`TIMER`; only START.RUN, RESET and `Finish` write `SESS` and `OUTCOME`; only START.RUN, RESET and
CK.LO.OK write `MEAS`; and no operation writes the parameters or the events to come. -/
def Obligations.OwnershipOfTheState : Prop :=
  ∀ (i : Instr) (s t : State), exec i s = .next t →
    ((t.pos, t.acc, t.lenHi, t.buf) ≠ (s.pos, s.acc, s.lenHi, s.buf) →
      isPipeline i = true ∨ isHostStart i = true ∨ isFinish i = true) ∧
    (t.timer ≠ s.timer → i = .tickDec ∨ isHostStart i = true ∨ isFinish i = true) ∧
    ((t.sess, t.outcome) ≠ (s.sess, s.outcome) → isHostStart i = true ∨ isFinish i = true) ∧
    (t.meas ≠ s.meas → isHostStart i = true ∨ ∃ b, i = .ckLoOk b) ∧
    t.params = s.params ∧ t.input = s.input

/-- R46, R17: `MEAS` changes as a whole. After any operation it is what it was, all zero (RESET and
START.RUN), or the twelve fields of the body with `OUTCOME = OK` (CK.LO.OK). -/
def Obligations.MeasurementIsNeverPartial : Prop :=
  ∀ (i : Instr) (s t : State), exec i s = .next t →
    t.meas = s.meas ∨
    (t.meas = Vector.replicate 12 0 ∧ isHostStart i = true) ∨
    ((∃ b, i = .ckLoOk b) ∧ t.outcome = .ok ∧
      ∀ (k : Nat) (h : k < 12),
        t.meas[k].toNat = 256 * s.buf[2 * k].toNat + s.buf[2 * k + 1].toNat)

/-- R19, R146: the derived outputs, and the byte source's lifetime. The source is open exactly while
RUNNING; START.RUN opens it; RESET and the operations that perform `Finish` close it, and no other. -/
def Obligations.SourceIsOpenExactlyWhileRunning : Prop :=
  (∀ s : State, (s.srcOpen = true ↔ s.sess = .running) ∧ (s.busy = true ↔ s.sess = .running) ∧
    (s.isDone = true ↔ s.sess = .done) ∧ (s.measValid = true ↔ s.outcome = .ok)) ∧
  (∀ (i : Instr) (s t : State), exec i s = .next t →
    (opensSource s t ↔ ∃ n, i = .startRun n) ∧
    (closesSource s t ↔ isFinish i = true ∨ (i = .reset ∧ s.sess = .running)))

/-- R14, R122: where the invariants of R21 hold, `ACC` is at most 6801, at most 398 before the length
check has passed, and at least 171 at the verification step: the modulus is never reached. -/
def Obligations.AccumulatorNeverOverflows : Prop :=
  ∀ s : State, Inv s → s.acc.toNat ≤ 6801 ∧ (s.pos.toNat ≤ 3 → s.acc.toNat ≤ 398) ∧
    (s.pos.toNat = 31 → 171 ≤ s.acc.toNat)

/-- R64: the checksum of a frame with correct marker and length lies in `0x00AB .. 0x1A91`, so the high
checksum byte of a well-formed frame is at most `0x1A`. -/
def Obligations.ChecksumRange : Prop :=
  (∀ f : Frame, f[0] = 0x42 → f[1] = 0x4D → f[2] = 0x00 → f[3] = 0x1C →
    0x00AB ≤ f.checksum ∧ f.checksum ≤ 0x1A91) ∧
  (∀ f : Frame, f.WellFormed → f[30].toNat ≤ 0x1A)

/-- R72, R73: the frame the script notation builds is well formed, and carries the measurement and the
reserved field it was given. -/
def Obligations.BuiltFramesAreWellFormed : Prop :=
  ∀ (m : Meas) (rsv : Half), (frameBytes m rsv).length = 32 ∧
    ∀ f : Frame, f.toList = frameBytes m rsv → f.WellFormed ∧ f.meas = m ∧ f.rsv = rsv

/-- R4, R49; the queue is the model's own (log entry 1): events queued for the machine take effect one
at a time, in the order of delivery: the steps of the machine on the queue are the run of the events. -/
def Obligations.QueuedEventsRunInOrder : Prop :=
  ∀ (es : List Event) (s : State), s.input = [] →
    Host.Core.run Sys2Proof.core es.length (s.deliver es) = runEvents es s

/-- R141, R114, R42: NOP events anywhere in a run change nothing, so a short read resumes where it
stopped. -/
def Obligations.IdleStepsAreInvisible : Prop :=
  ∀ (es : List Event) (s : State), runEvents es s = runEvents (es.filter (· ≠ .nop)) s

/-- R42: a read of `N` bytes that comes in two parts gives the block what the whole read gives it. -/
def Obligations.ShortReadsResume : Prop :=
  ∀ (s : State) (n : Nat) (as bs : List Byte), as.length + bs.length = n →
    runEvents (readEvents n (.returned as) ++ readEvents (n - as.length) (.returned bs)) s =
      runEvents (readEvents n (.returned (as ++ bs))) s

/-- R202, R193, V8, by the model's operation for the strap (log entry 8): the strap is refused a new
value while a session runs; otherwise it changes and nothing else does. -/
def Obligations.StrapIsConstantInASession : Prop :=
  ∀ (s : State) (r : Bool),
    (s.sess = .running → s.params.rearm ≠ r → s.setRearm r = none) ∧
    (s.sess ≠ .running → ∃ t, s.setRearm r = some t ∧ t.params.rearm = r ∧
      t = { s with params := t.params }) ∧
    (s.params.rearm = r → s.setRearm r = some s)

/-- R143, R52, R171, R198: once an outcome is claimed, every later event but START and RESET leaves the
state as it is: no second outcome, no late result. -/
def Obligations.OneOutcomePerSession : Prop :=
  ∀ (s t : State) (es fs : List Event), Inv s → s.sess = .running →
    es.all notHost = true → fs.all notHost = true →
    runEvents es s = .next t → t.outcome ≠ .none → runEvents fs t = .next t

/-- R96 (a), (c): with `REARM = 1`, from `POS = 0`, bytes without the marker pair leave the block at
`POS = 1` if the last of them is `0x42` and at `POS = 0` otherwise; the first marker pair takes it to
`POS = 2` with `ACC = 0x008F`, whatever noise came before. -/
def Obligations.MarkerScanWithRearm : Prop :=
  ∀ (s : State) (bs : List Byte), Inv s → s.sess = .running → s.pos = 0 →
    s.params.rearm = true →
    (hasMarker bs = false →
      runEvents (byteEvents bs) s =
        .next (if bs.getLast? = some 0x42 then { s with pos := 1, acc := 0x0042 } else s)) ∧
    (hasMarker (bs ++ [0x42]) = false →
      runEvents (byteEvents (bs ++ [0x42, 0x4D])) s = .next { s with pos := 2, acc := 0x008F })

/-- R96 (b), (c): with `REARM = 0` the block alternates within a run of `0x42` bytes, and reaches
`POS = 2` after the first `0x4D` that follows a run of odd length. -/
def Obligations.MarkerScanWithoutRearm : Prop :=
  ∀ (s : State) (bs : List Byte), Inv s → s.sess = .running → s.pos = 0 →
    s.params.rearm = false → NoOddMarker bs →
    (trailingRun bs % 2 = 0 → runEvents (byteEvents bs) s = .next s) ∧
    (trailingRun bs % 2 = 1 →
      runEvents (byteEvents bs) s = .next { s with pos := 1, acc := 0x0042 } ∧
      runEvents (byteEvents (bs ++ [0x4D])) s = .next { s with pos := 2, acc := 0x008F })

/-- R145 (c), S3: a well-formed frame, delivered after START with only NOP and TICK events between its
bytes, no more TICKs than the timeout allows, gives OK and exactly its measurement; trailing bytes
change nothing; and that is what the call `acquire` returns. -/
def Obligations.GoodFrameIsDelivered : Prop :=
  ∀ (s : State) (n : Ticks) (f : Frame) (es : List Event) (trailing : List Byte),
    s.sess ≠ .running → f.WellFormed → bytesIn es = f.toList → es.all isQuiet = true →
    ticksIn es ≤ n.toNat →
    (∃ t, runEvents (.start n :: es) s = .next t ∧
      t = { s with
        sess := .done, outcome := .ok, meas := f.meas, timer := 0
        pos := 0, acc := 0, lenHi := 0, buf := Vector.replicate 28 0 } ∧
      runEvents (byteEvents trailing) t = .next t) ∧
    acquire n (es ++ byteEvents trailing) s = some (.ok, f.meas)

/-- R96, R123, S4 to S6: with `REARM = 1`, noise without a marker pair, then a damaged frame, then a
well-formed one: the last is delivered, and nothing of what came before it shows. -/
def Obligations.GoodFrameAfterNoiseAndDamage : Prop :=
  ∀ (s : State) (noise : List Byte) (bad f : Frame), Inv s → s.sess = .running → s.pos = 0 →
    s.params.rearm = true → hasMarker noise = false →
    bad[0] = 0x42 → bad[1] = 0x4D → bad[2] = 0x00 → bad[3] = 0x1C →
    256 * bad[30].toNat + bad[31].toNat ≠ bad.checksum → f.WellFormed →
    runEvents (byteEvents (noise ++ bad.toList ++ f.toList)) s = .next { s with
      sess := .done, outcome := .ok, meas := f.meas, timer := 0
      pos := 0, acc := 0, lenHi := 0, buf := Vector.replicate 28 0 }

/-- I7 to I10 of R21 with the past they speak of: in a running session the last `POS` bytes consumed are
the bytes of the attempt. `ACC` is the sum of the first 30 of them, they begin with the marker,
`LENHI` is the third at `POS = 3`, the length field was `00 1C` from `POS = 4` on, and `BUF` holds the
rest. -/
def Obligations.AttemptHoldsExactlyItsBytes : Prop :=
  ∀ (s t : State) (es : List Event), Inv s → s.sess = .running → s.pos = 0 →
    es.all notHost = true → runEvents es s = .next t → t.sess = .running →
    ∃ before attempt : List Byte, bytesIn es = before ++ attempt ∧ attempt.length = t.pos.toNat ∧
      t.acc.toNat = ((attempt.take 30).map BitVec.toNat).sum ∧
      (1 ≤ t.pos.toNat → attempt[0]? = some 0x42) ∧ (2 ≤ t.pos.toNat → attempt[1]? = some 0x4D) ∧
      (t.pos.toNat = 3 → attempt[2]? = some t.lenHi) ∧
      (4 ≤ t.pos.toNat → attempt[2]? = some 0x00 ∧ attempt[3]? = some 0x1C) ∧
      (∀ (i : Nat) (h : i < 28), i + 4 < t.pos.toNat → attempt[i + 4]? = some t.buf[i]) ∧
      (∀ (i : Nat) (h : i < 28), t.pos.toNat ≤ i + 4 → t.buf[i] = 0)

/-- R145 (d), S5: 32 bytes with correct marker and length whose last two differ from the sum of the first
30 leave a block at `POS = 0` exactly as they found it. -/
def Obligations.CorruptFrameLeavesNoTrace : Prop :=
  ∀ (s : State) (f : Frame), Inv s → s.sess = .running → s.pos = 0 →
    f[0] = 0x42 → f[1] = 0x4D → f[2] = 0x00 → f[3] = 0x1C →
    256 * f[30].toNat + f[31].toNat ≠ f.checksum →
    runEvents (byteEvents f.toList) s = .next s

/-- R195: the bytes `42 4D` in noise take the next two bytes as a length. When these are the marker of a
real frame they are consumed, and the block scans again after them as if none of the four had come. -/
def Obligations.FalseMarkerSwallowsARealOne : Prop :=
  ∀ (s : State) (f : Frame), Inv s → s.sess = .running → s.pos = 0 → f.WellFormed →
    runEvents (byteEvents ([0x42, 0x4D] ++ f.toList.take 2)) s = .next s

/-- R66, U2: the reserved field is covered by the checksum and never delivered. Two well-formed frames
with the same measurement, whatever their reserved fields, end in the same state. -/
def Obligations.ReservedFieldIsNeverDelivered : Prop :=
  ∀ (s : State) (f g : Frame), Inv s → s.sess = .running → s.pos = 0 →
    f.WellFormed → g.WellFormed → f.meas = g.meas →
    ∃ t, runEvents (byteEvents f.toList) s = .next t ∧
      runEvents (byteEvents g.toList) s = .next t ∧ t.meas = f.meas

/-- R196: the checksum is a plain sum and does not see two data bytes exchanged. -/
def Obligations.ExchangedDataBytesVerify : Prop :=
  ∀ (f : Frame) (i j : Nat) (hi : i < 30) (hj : j < 30), 4 ≤ i → 4 ≤ j → f.WellFormed →
    Frame.WellFormed ((f.set i f[j]).set j f[i])

/-- R134, R144, R145 (a), R201: a session started with `n` is over by its `(n + 1)`-th TICK; it does not
time out earlier; and if it is still running after `n` TICKs the next one times it out. The last clause is
arithmetic on the model's reading of real time (`tickTime` and the opaque `Config.tickPeriod`, log entry 6,
DEDUCED): with the first TICK at most one period after START, the `(n + 1)`-th TICK comes after more than
`n` and at most `n + 1` periods. -/
def Obligations.SessionEndsByTickNPlusOne : Prop :=
  (∀ (s : State) (n : Ticks) (es : List Event), s.sess ≠ .running → es.all notHost = true →
    ∃ t, runEvents (.start n :: es) s = .next t ∧
      (n.toNat + 1 ≤ ticksIn es → t.sess = .done ∧ t.outcome ≠ .none) ∧
      (t.outcome = .timeout → n.toNat + 1 ≤ ticksIn es) ∧
      (t.sess = .running → ticksIn es = n.toNat →
        ∃ u, applyEvent .tick t = .next u ∧ u.sess = .done ∧ u.outcome = .timeout)) ∧
  (∀ phase n : Nat, 0 < phase → phase ≤ (Config.tickPeriod : Nat) →
    n * (Config.tickPeriod : Nat) < tickTime phase (n + 1) ∧
    tickTime phase (n + 1) ≤ (n + 1) * (Config.tickPeriod : Nat))

/-- R145 (b), R199: a CANCEL that finds the session running, after any events, ends it with CANCELLED,
with the byte source closed in the state in which `DONE` first holds, and a CANCEL outside a session is
not remembered. -/
def Obligations.CancelIsHonouredAtEveryStep : Prop :=
  (∀ (s t : State) (es : List Event), runEvents es s = .next t → t.sess = .running →
    ∃ u, runEvents (es ++ [.cancel]) s = .next u ∧ u.outcome = .cancelled ∧ u.isDone = true ∧
      u.srcOpen = false ∧ u.meas = t.meas) ∧
  (∀ s : State, s.sess ≠ .running → runEvents [.cancel] s = .next s)

/-- R16, D8: a block that leaves stale bytes in `BUF` cannot be told from one that zeroes it: on every
event sequence the two select the same operations and show the same outputs. -/
def Obligations.StaleBufferBytesAreInvisible : Prop :=
  ∀ (es : List Event) (s t : State), sameButStaleBuf s t →
    ∃ u v, runEvents es s = .next u ∧ runEvents es t = .next v ∧ u.outputs = v.outputs ∧
      traceOf es s = traceOf es t

/-- R148: several inputs in one clock of the pin realisation. A cancel wins over a tick and over the
byte; an expiring tick wins over a read error and the byte; a read error wins over the byte; a start in
the clock that ends a session begins the next one; start with rst gives a session from reset values; a
clock with no input changes nothing. -/
def Obligations.InputsOfOneClock : Prop :=
  ∀ (s : State) (p : Pins),
    (s.sess = .running → p.rst = false → p.start = false → p.cancel = true →
      ∃ t, clock p s = .next t ∧ t.sess = .done ∧ t.outcome = .cancelled) ∧
    (s.sess = .running → p.rst = false → p.start = false → p.cancel = false → p.tick = true →
      s.timer = 0 → ∃ t, clock p s = .next t ∧ t.sess = .done ∧ t.outcome = .timeout) ∧
    (s.sess = .running → p.rst = false → p.start = false → p.cancel = false →
      (p.tick = true → s.timer ≠ 0) → p.rxError = true →
      ∃ t, clock p s = .next t ∧ t.sess = .done ∧ t.outcome = .ioFailure) ∧
    (s.sess = .running → p.rst = false → p.start = true →
      (p.cancel = true ∨ (p.tick = true ∧ s.timer = 0) ∨ p.rxError = true) →
      clock p s = .next { s with
        sess := .running, outcome := .none, timer := p.timeoutTicks, meas := Vector.replicate 12 0
        pos := 0, acc := 0, lenHi := 0, buf := Vector.replicate 28 0 }) ∧
    (p.rst = true → p.start = true →
      clock p s = .next { State.reset with
        sess := .running, timer := p.timeoutTicks, params := s.params, input := s.input }) ∧
    (p.rst = false → p.start = false → p.cancel = false → p.tick = false → p.rxError = false →
      p.rxValid = false → clock p s = .next s)
end

