-- ==== Sys2Proof/Laws/Decode.lean ====
section
/-! SUPPORT. The fields of an encoded word, and the codes of the kinds. -/

namespace Sys2Proof

@[simp] theorem kindField_append (k : BitVec 3) (o : BitVec 32) : kindField (k ++ o) = k := by
  apply BitVec.eq_of_getLsbD_eq
  intro i hi
  simp only [kindField, BitVec.getLsbD_extractLsb', BitVec.getLsbD_append]
  simp [hi]

@[simp] theorem operandField_append (k : BitVec 3) (o : BitVec 32) : operandField (k ++ o) = o := by
  apply BitVec.eq_of_getLsbD_eq
  intro i hi
  simp only [operandField, BitVec.getLsbD_extractLsb', BitVec.getLsbD_append]
  simp [hi]

/-- A word is its two fields. -/
theorem append_fields (w : EventWord) : kindField w ++ operandField w = w := by
  apply BitVec.eq_of_getLsbD_eq
  intro i hi
  simp only [kindField, operandField, BitVec.getLsbD_extractLsb', BitVec.getLsbD_append]
  by_cases h : i < 32
  · simp [h]
  · have h3 : i - 32 < 3 := by omega
    have h4 : 32 + (i - 32) = i := by omega
    simp [h, h3, h4]

theorem kindField_toNat (w : EventWord) : (kindField w).toNat = w.toNat / 2 ^ 32 := by
  have := w.isLt
  simp only [kindField, BitVec.extractLsb'_toNat, Nat.shiftRight_eq_div_pow]
  omega

theorem operandField_toNat (w : EventWord) : (operandField w).toNat = w.toNat % 2 ^ 32 := by
  simp [operandField, BitVec.extractLsb'_toNat]

/-- The kind codes are told apart, and code 7 is none of them. -/
@[simp] theorem ofCode_code (k : EventKind) : EventKind.ofCode k.code = some k := by
  cases k <;> decide

theorem code_of_ofCode (c : BitVec 3) (k : EventKind) (h : EventKind.ofCode c = some k) :
    k.code = c := by
  revert c k
  decide

theorem ofCode_eq_none (c : BitVec 3) : EventKind.ofCode c = none ↔ c = 7 := by
  revert c
  decide

/-- The byte operand comes back out of 32 bits. -/
@[simp] theorem byteOperand_low (b : Byte) : (b.setWidth 32).extractLsb' 0 8 = b := by
  apply BitVec.eq_of_getLsbD_eq
  intro i hi
  simp only [BitVec.getLsbD_extractLsb', BitVec.getLsbD_setWidth]
  have : i < 32 := by omega
  simp [hi, this]

@[simp] theorem byteOperand_high (b : Byte) : (b.setWidth 32).extractLsb' 8 24 = 0 := by
  apply BitVec.eq_of_getLsbD_eq
  intro i hi
  simp only [BitVec.getLsbD_extractLsb', BitVec.getLsbD_setWidth]
  simp

/-- A table word of 40 bits or fewer that is an event word is that word. -/
theorem tableWord_of_lt (nbits w : Nat) (h : w % 2 ^ nbits < 2 ^ 35) :
    (tableWord nbits w).toNat = w % 2 ^ nbits := by
  rw [tableWord, if_pos h, BitVec.toNat_ofNat, Nat.mod_eq_of_lt h]

end Sys2Proof
end

