-- ==== Sys2Proof/Laws/Operands.lean ====
section
/-! SUPPORT. The arithmetic of the operand forms: each operator pushed down to natural numbers, reads
after writes of `BUF`, and the sum of the body bytes. -/

namespace Sys2Proof

@[simp] theorem zext16_toNat (b : Byte) : (zext16 b).toNat = b.toNat := by
  simp only [zext16, BitVec.toNat_setWidth]
  have := b.isLt
  omega

/-- The big-endian value of two bytes (R7: `{hi, lo} = 256 * hi + lo`). -/
@[simp] theorem be16_toNat (h l : Byte) : (be16 h l).toNat = 256 * h.toNat + l.toNat := by
  have hl := l.isLt
  rw [be16, BitVec.toNat_append, ← Nat.shiftLeft_add_eq_or_of_lt hl, Nat.shiftLeft_eq]
  omega

theorem addCovered_toNat (a : Half) (b : Byte) :
    (addCovered a b).toNat = (a.toNat + b.toNat) % 2 ^ 16 := by
  simp [addCovered]

/-- A 16-bit value equals a pair of bytes exactly when the numbers agree (R122). -/
theorem eq_be16_iff (a : Half) (h l : Byte) :
    a = be16 h l ↔ a.toNat = 256 * h.toNat + l.toNat := by
  rw [← BitVec.toNat_inj, be16_toNat]

@[simp] theorem zeroBuf_get (i : Nat) (h : i < 28) : zeroBuf[i] = 0 := by simp [zeroBuf]

@[simp] theorem zeroMeas_get (i : Nat) (h : i < 12) : zeroMeas[i] = 0 := by simp [zeroMeas]

theorem measOf_get (buf : Buf) (k : Nat) (h : k < 12) :
    (measOf buf)[k] = be16 buf[2 * k] buf[2 * k + 1] := by
  simp [measOf, memRead2]

theorem memWrite1_get (buf : Buf) (i : Fin 28) (v : Byte) (j : Nat) (h : j < 28) :
    (memWrite1 buf i v)[j] = if j = i.val then v else buf[j] := by
  simp only [memWrite1, Vector.getElem_set]
  split <;> split <;> first | rfl | omega

theorem bodyIndex_val (p : Pos) : (bodyIndex p).val = p.toNat - 4 := rfl

/-- A buffer whose elements are all zero is the zero buffer. -/
theorem eq_zeroBuf (buf : Buf) (h : ∀ (i : Nat) (hi : i < 28), buf[i] = 0) : buf = zeroBuf := by
  ext i hi
  rw [h i hi, zeroBuf_get]

namespace Machine

/-- The sum of one more body byte. -/
theorem bufSum_succ (buf : Buf) (n : Nat) (h : n < 28) :
    bufSum buf (n + 1) = bufSum buf n + buf[n].toNat := by
  have hl : n < buf.toList.length := by simpa using h
  simp [bufSum, List.take_add_one, List.getElem?_eq_getElem hl]

@[simp] theorem bufSum_zero (buf : Buf) : bufSum buf 0 = 0 := by simp [bufSum]

/-- The sum depends on the bytes it covers only. -/
theorem bufSum_congr (a b : Buf) (n : Nat) (hn : n ≤ 28)
    (h : ∀ (i : Nat) (hi : i < 28), i < n → a[i] = b[i]) : bufSum a n = bufSum b n := by
  induction n with
  | zero => simp
  | succ n ih =>
    rw [bufSum_succ a n (by omega), bufSum_succ b n (by omega), h n (by omega) (by omega),
      ih (by omega) fun i hi hin => h i hi (by omega)]

/-- A write at or above the bytes of the sum does not change it. -/
theorem bufSum_memWrite1 (buf : Buf) (i : Fin 28) (v : Byte) (n : Nat) (hn : n ≤ i.val) :
    bufSum (memWrite1 buf i v) n = bufSum buf n := by
  refine bufSum_congr _ _ n (by omega) fun j hj hjn => ?_
  rw [memWrite1_get, if_neg (by omega)]

theorem bufSum_le (buf : Buf) (n : Nat) (hn : n ≤ 28) : bufSum buf n ≤ 255 * n := by
  induction n with
  | zero => simp
  | succ n ih =>
    rw [bufSum_succ buf n (by omega)]
    have := buf[n].isLt
    have := ih (by omega)
    omega

end Machine

end Sys2Proof
end

