-- ==== Sys2Proof/Laws/State.lean ====
section
/-! SUPPORT. What each named update of the state leaves in each field, and the effect of raising each
error. -/

namespace Sys2Proof.Machine

section attemptReset
variable (s : State)
@[simp] theorem State.attemptReset_sess : s.attemptReset.sess = s.sess := rfl
@[simp] theorem State.attemptReset_outcome : s.attemptReset.outcome = s.outcome := rfl
@[simp] theorem State.attemptReset_pos : s.attemptReset.pos = 0 := rfl
@[simp] theorem State.attemptReset_acc : s.attemptReset.acc = 0 := rfl
@[simp] theorem State.attemptReset_lenHi : s.attemptReset.lenHi = 0 := rfl
@[simp] theorem State.attemptReset_buf : s.attemptReset.buf = zeroBuf := rfl
@[simp] theorem State.attemptReset_meas : s.attemptReset.meas = s.meas := rfl
@[simp] theorem State.attemptReset_timer : s.attemptReset.timer = s.timer := rfl
@[simp] theorem State.attemptReset_params : s.attemptReset.params = s.params := rfl
@[simp] theorem State.attemptReset_input : s.attemptReset.input = s.input := rfl
end attemptReset

section finish
variable (s : State) (k : SessionOutcome)
@[simp] theorem State.finish_sess : (s.finish k).sess = .done := rfl
@[simp] theorem State.finish_outcome : (s.finish k).outcome = k := rfl
@[simp] theorem State.finish_pos : (s.finish k).pos = 0 := rfl
@[simp] theorem State.finish_acc : (s.finish k).acc = 0 := rfl
@[simp] theorem State.finish_lenHi : (s.finish k).lenHi = 0 := rfl
@[simp] theorem State.finish_buf : (s.finish k).buf = zeroBuf := rfl
@[simp] theorem State.finish_meas : (s.finish k).meas = s.meas := rfl
@[simp] theorem State.finish_timer : (s.finish k).timer = 0 := rfl
@[simp] theorem State.finish_params : (s.finish k).params = s.params := rfl
@[simp] theorem State.finish_input : (s.finish k).input = s.input := rfl
end finish

section storeCovered
variable (s : State) (b : Byte)
@[simp] theorem State.storeCovered_sess : (s.storeCovered b).sess = s.sess := rfl
@[simp] theorem State.storeCovered_outcome : (s.storeCovered b).outcome = s.outcome := rfl
@[simp] theorem State.storeCovered_pos : (s.storeCovered b).pos = s.pos + 1 := rfl
@[simp] theorem State.storeCovered_acc : (s.storeCovered b).acc = addCovered s.acc b := rfl
@[simp] theorem State.storeCovered_lenHi : (s.storeCovered b).lenHi = s.lenHi := rfl
@[simp] theorem State.storeCovered_buf :
    (s.storeCovered b).buf = memWrite1 s.buf (bodyIndex s.pos) b := rfl
@[simp] theorem State.storeCovered_meas : (s.storeCovered b).meas = s.meas := rfl
@[simp] theorem State.storeCovered_timer : (s.storeCovered b).timer = s.timer := rfl
@[simp] theorem State.storeCovered_params : (s.storeCovered b).params = s.params := rfl
@[simp] theorem State.storeCovered_input : (s.storeCovered b).input = s.input := rfl
end storeCovered

section commitMeas
variable (s : State)
@[simp] theorem State.commitMeas_sess : s.commitMeas.sess = s.sess := rfl
@[simp] theorem State.commitMeas_outcome : s.commitMeas.outcome = s.outcome := rfl
@[simp] theorem State.commitMeas_pos : s.commitMeas.pos = s.pos := rfl
@[simp] theorem State.commitMeas_acc : s.commitMeas.acc = s.acc := rfl
@[simp] theorem State.commitMeas_lenHi : s.commitMeas.lenHi = s.lenHi := rfl
@[simp] theorem State.commitMeas_buf : s.commitMeas.buf = s.buf := rfl
@[simp] theorem State.commitMeas_meas : s.commitMeas.meas = measOf s.buf := rfl
@[simp] theorem State.commitMeas_timer : s.commitMeas.timer = s.timer := rfl
@[simp] theorem State.commitMeas_params : s.commitMeas.params = s.params := rfl
@[simp] theorem State.commitMeas_input : s.commitMeas.input = s.input := rfl
end commitMeas

section clearResult
variable (s : State)
@[simp] theorem State.clearResult_sess : s.clearResult.sess = s.sess := rfl
@[simp] theorem State.clearResult_outcome : s.clearResult.outcome = .none := rfl
@[simp] theorem State.clearResult_pos : s.clearResult.pos = s.pos := rfl
@[simp] theorem State.clearResult_acc : s.clearResult.acc = s.acc := rfl
@[simp] theorem State.clearResult_lenHi : s.clearResult.lenHi = s.lenHi := rfl
@[simp] theorem State.clearResult_buf : s.clearResult.buf = s.buf := rfl
@[simp] theorem State.clearResult_meas : s.clearResult.meas = zeroMeas := rfl
@[simp] theorem State.clearResult_timer : s.clearResult.timer = s.timer := rfl
@[simp] theorem State.clearResult_params : s.clearResult.params = s.params := rfl
@[simp] theorem State.clearResult_input : s.clearResult.input = s.input := rfl
end clearResult

section raiseError
variable (s : State)
@[simp] theorem State.raiseError_ioFailure : s.raiseError .ioFailure = s.finish .ioFailure := rfl
@[simp] theorem State.raiseError_timeout : s.raiseError .timeout = s.finish .timeout := rfl
@[simp] theorem State.raiseError_cancelled : s.raiseError .cancelled = s.finish .cancelled := rfl
@[simp] theorem State.raiseError_badFrameLength :
    s.raiseError .badFrameLength = s.attemptReset := rfl
@[simp] theorem State.raiseError_checksumMismatch :
    s.raiseError .checksumMismatch = s.attemptReset := rfl
end raiseError

section ctx
variable (s : State)
@[simp] theorem State.ctx_sess : s.ctx.sess = s.sess := rfl
@[simp] theorem State.ctx_pos : s.ctx.pos = s.pos := rfl
@[simp] theorem State.ctx_timer : s.ctx.timer = s.timer := rfl
@[simp] theorem State.ctx_lenHi : s.ctx.lenHi = s.lenHi := rfl
@[simp] theorem State.ctx_acc : s.ctx.acc = s.acc := rfl
@[simp] theorem State.ctx_ckHi : s.ctx.ckHi = s.buf[26] := rfl
@[simp] theorem State.ctx_rearm : s.ctx.rearm = s.params.rearm := rfl
end ctx

/-- What the decoder is given for a table word is what a state right after reset shows it. -/
theorem ctx_reset : State.reset.ctx = Ctx.afterReset := by decide

end Sys2Proof.Machine
end

