-- ==== Sys2Proof/Laws/Ops.lean ====
section
/-! SUPPORT. What each shared operation can do, said once: applying an operation, dispatching it,
taking the next event, and running a sequence of events. -/

namespace Sys2Proof.Machine

/-- An operation that answers a next state was selected, and the state is its effect. -/
theorem whenSelected_next {i : Instr} {s t u : State} (h : whenSelected i s t = .next u) :
    rowFits s.ctx i = true ∧ u = t := by
  unfold whenSelected at h
  split at h
  · next hf => exact ⟨hf, (Host.Outcome.next.inj h).symm⟩
  · cases h

theorem whenSelected_of_fits {i : Instr} {s t : State} (h : rowFits s.ctx i = true) :
    whenSelected i s t = .next t := if_pos h

theorem whenSelected_of_not_fits {i : Instr} {s t : State} (h : rowFits s.ctx i = false) :
    whenSelected i s t = .refused .notSelected := if_neg (by simp [h])

/-- The effect of each operation where it is selected: the pseudocode of its rule. -/
def effect : Instr → State → State
  | .reset, s => { s.clearResult.attemptReset with sess := .ready, timer := 0 }
  | .startRun n, s => { s.clearResult.attemptReset with sess := .running, timer := n }
  | .startIgn _, s => s
  | .tickDec, s => { s with timer := s.timer - 1 }
  | .tickExp, s => s.finish .timeout
  | .tickIgn, s => s
  | .cancelFin, s => s.finish .cancelled
  | .cancelIgn, s => s
  | .ioerrFin, s => s.finish .ioFailure
  | .ioerrIgn, s => s
  | .byteIgn _, s => s
  | .nop, s => s
  | .synM1, s => { s with acc := addCovered s.acc Config.mark1, pos := 1 }
  | .synSkip _, s => s
  | .synM2, s => { s with acc := addCovered s.acc Config.mark2, pos := 2 }
  | .synRearm, s => { s.attemptReset with acc := zext16 Config.mark1, pos := 1 }
  | .synDrop _, s => s.attemptReset
  | .lenHi b, s => { s with lenHi := b, acc := addCovered s.acc b, pos := 3 }
  | .lenLoOk _, s => { s with acc := s.acc + 0x001C, pos := 4 }
  | .lenLoBad _, s => s.attemptReset
  | .bodyMeas b, s => s.storeCovered b
  | .bodyRsv b, s => s.storeCovered b
  | .ckHi b, s => { s with buf := memWrite1 s.buf 26 b, pos := 31 }
  | .ckLoOk _, s => s.commitMeas.finish .ok
  | .ckLoBad _, s => s.attemptReset

/-- Every meaning is its effect where its row fits, and a refusal by name elsewhere. -/
theorem exec_eq (i : Instr) (s : State) : exec i s = whenSelected i s (effect i s) := by
  cases i <;> rfl

/-- An operation that answers a next state was selected, and the state is its effect. -/
theorem exec_next {i : Instr} {s t : State} (h : exec i s = .next t) :
    rowFits s.ctx i = true ∧ t = effect i s :=
  whenSelected_next ((exec_eq i s).symm.trans h)

theorem exec_of_fits {i : Instr} {s : State} (h : rowFits s.ctx i = true) :
    exec i s = .next (effect i s) := (exec_eq i s).trans (whenSelected_of_fits h)

/-- No operation writes the parameters or the events to come. -/
theorem effect_own_fields (i : Instr) (s : State) :
    (effect i s).params = s.params ∧ (effect i s).input = s.input := by
  cases i <;> exact ⟨rfl, rfl⟩

theorem fetch_cons {s : State} {w : EventWord} {ws : List EventWord} (h : s.input = w :: ws) :
    fetch s = (w, { s with input := ws }) := by
  simp only [fetch, h]

theorem fetch_nil {s : State} (h : s.input = []) : fetch s = (nopWord, s) := by
  simp only [fetch, h]

theorem withFetchWord_fetch (s : State) (nbits w : Nat) :
    fetch (s.withFetchWord nbits w) = (tableWord nbits w, s) := rfl

@[simp] theorem runEvents_nil (s : State) : runEvents [] s = .next s := rfl

theorem runEvents_cons_of_next {e : Event} {es : List Event} {s t : State}
    (h : applyEvent e s = .next t) : runEvents (e :: es) s = runEvents es t := by
  simp only [runEvents, h]

/-- A run of two sequences is the run of the second from where the first ends. -/
theorem runEvents_append_of_next {es fs : List Event} {s t : State}
    (h : runEvents es s = .next t) : runEvents (es ++ fs) s = runEvents fs t := by
  induction es generalizing s with
  | nil => cases h; rfl
  | cons e es ih =>
    simp only [runEvents, List.cons_append] at h ⊢
    cases ha : applyEvent e s with
    | next u => simp only [ha] at h ⊢; exact ih h
    | fault r => simp only [ha] at h; cases h
    | refused r => simp only [ha] at h; cases h

end Sys2Proof.Machine
end

