-- ==== Sys2Proof/Laws/PerInstr.lean ====
section
/-! SUPPORT. Two facts about each operation as syntax: the fields of its word, and that an operation
whose row fits some state is well formed. -/

namespace Sys2Proof.Laws.EncodedFields

/-- The two fields of the word of an operation are the kind and the operand of its event (R67). -/
def Statement (i : Instr) : Prop :=
  kindField (encode i) = i.event.kind.code ∧ operandField (encode i) = i.event.operand

theorem of_event (i : Instr) : Statement i := by
  simp [Statement, encode, encodeEvent]

theorem reset : Statement .reset := of_event _
theorem startRun (n : Ticks) : Statement (.startRun n) := of_event _
theorem startIgn (n : Ticks) : Statement (.startIgn n) := of_event _
theorem tickDec : Statement .tickDec := of_event _
theorem tickExp : Statement .tickExp := of_event _
theorem tickIgn : Statement .tickIgn := of_event _
theorem cancelFin : Statement .cancelFin := of_event _
theorem cancelIgn : Statement .cancelIgn := of_event _
theorem ioerrFin : Statement .ioerrFin := of_event _
theorem ioerrIgn : Statement .ioerrIgn := of_event _
theorem byteIgn (b : Byte) : Statement (.byteIgn b) := of_event _
theorem nop : Statement .nop := of_event _
theorem synM1 : Statement .synM1 := of_event _
theorem synSkip (b : Byte) : Statement (.synSkip b) := of_event _
theorem synM2 : Statement .synM2 := of_event _
theorem synRearm : Statement .synRearm := of_event _
theorem synDrop (b : Byte) : Statement (.synDrop b) := of_event _
theorem lenHi (b : Byte) : Statement (.lenHi b) := of_event _
theorem lenLoOk (b : Byte) : Statement (.lenLoOk b) := of_event _
theorem lenLoBad (b : Byte) : Statement (.lenLoBad b) := of_event _
theorem bodyMeas (b : Byte) : Statement (.bodyMeas b) := of_event _
theorem bodyRsv (b : Byte) : Statement (.bodyRsv b) := of_event _
theorem ckHi (b : Byte) : Statement (.ckHi b) := of_event _
theorem ckLoOk (b : Byte) : Statement (.ckLoOk b) := of_event _
theorem ckLoBad (b : Byte) : Statement (.ckLoBad b) := of_event _

end Sys2Proof.Laws.EncodedFields

namespace Sys2Proof.Laws.FitsIsWellFormed

/-- A row that fits some state is the row of a well-formed operation (R68). -/
def Statement (i : Instr) : Prop := ∀ c : Ctx, rowFits c i = true → i.wellFormed = true

theorem reset : Statement .reset := fun _ _ => rfl
theorem startRun (n : Ticks) : Statement (.startRun n) := fun _ _ => rfl
theorem startIgn (n : Ticks) : Statement (.startIgn n) := fun _ _ => rfl
theorem tickDec : Statement .tickDec := fun _ _ => rfl
theorem tickExp : Statement .tickExp := fun _ _ => rfl
theorem tickIgn : Statement .tickIgn := fun _ _ => rfl
theorem cancelFin : Statement .cancelFin := fun _ _ => rfl
theorem cancelIgn : Statement .cancelIgn := fun _ _ => rfl
theorem ioerrFin : Statement .ioerrFin := fun _ _ => rfl
theorem ioerrIgn : Statement .ioerrIgn := fun _ _ => rfl
theorem byteIgn (b : Byte) : Statement (.byteIgn b) := fun _ _ => rfl
theorem nop : Statement .nop := fun _ _ => rfl
theorem synM1 : Statement .synM1 := fun _ _ => rfl
theorem synSkip (b : Byte) : Statement (.synSkip b) := by
  intro c h
  simp [rowFits, Instr.wellFormed, Config.mark1] at h ⊢
  simp [h]
theorem synM2 : Statement .synM2 := fun _ _ => rfl
theorem synRearm : Statement .synRearm := fun _ _ => rfl
theorem synDrop (b : Byte) : Statement (.synDrop b) := by
  intro c h
  simp [rowFits, Instr.wellFormed, Config.mark2] at h ⊢
  simp [h]
theorem lenHi (b : Byte) : Statement (.lenHi b) := fun _ _ => rfl
theorem lenLoOk (b : Byte) : Statement (.lenLoOk b) := by
  intro c h
  simp [rowFits, Instr.wellFormed] at h ⊢
  simp [h]
theorem lenLoBad (b : Byte) : Statement (.lenLoBad b) := fun _ _ => rfl
theorem bodyMeas (b : Byte) : Statement (.bodyMeas b) := fun _ _ => rfl
theorem bodyRsv (b : Byte) : Statement (.bodyRsv b) := fun _ _ => rfl
theorem ckHi (b : Byte) : Statement (.ckHi b) := fun _ _ => rfl
theorem ckLoOk (b : Byte) : Statement (.ckLoOk b) := fun _ _ => rfl
theorem ckLoBad (b : Byte) : Statement (.ckLoBad b) := fun _ _ => rfl

end Sys2Proof.Laws.FitsIsWellFormed
end

