-- ==== Sys2Proof/Laws/Select.lean ====
section
/-! SUPPORT. The operation a BYTE event selects, said once, case by case; and the codes of the
vocabulary. -/

namespace Sys2Proof

/-- A position is a literal exactly when its number is. -/
theorem pos_eq_iff (p : Pos) (k : Nat) (hk : k < 32) : p = BitVec.ofNat 5 k ↔ p.toNat = k := by
  rw [← BitVec.toNat_inj, BitVec.toNat_ofNat, Nat.mod_eq_of_lt (by omega)]

/-- The length guard, as numbers of the two bytes (R101). -/
theorem be16_eq_frameLen (h l : Byte) : be16 h l = Config.frameLen ↔ h = 0x00 ∧ l = 0x1C := by
  have hh := h.isLt
  have hl := l.isLt
  rw [← BitVec.toNat_inj, be16_toNat, ← BitVec.toNat_inj, ← BitVec.toNat_inj]
  have e28 : Config.frameLen.toNat = 28 := rfl
  have e0 : (0x00 : Byte).toNat = 0 := rfl
  have e1C : (0x1C : Byte).toNat = 28 := rfl
  omega

/-- The session status outside RUNNING. -/
theorem ready_or_done {x : Sess} (h : x ≠ .running) : x = .ready ∨ x = .done := by
  cases x
  · exact .inl rfl
  · exact absurd rfl h
  · exact .inr rfl

/-- Which operation a byte selects in a running session, in the ranges of `POS` that R68 has. -/
theorem selectByte_by_range (c : Ctx) (b : Byte) (hs : c.sess = .running) :
    (c.pos.toNat = 0 → selectByte c b = if b = 0x42 then .synM1 else .synSkip b) ∧
    (c.pos.toNat = 1 → selectByte c b =
      if b = 0x4D then .synM2
      else if b = 0x42 ∧ c.rearm = true then .synRearm else .synDrop b) ∧
    (c.pos.toNat = 2 → selectByte c b = .lenHi b) ∧
    (c.pos.toNat = 3 → selectByte c b =
      if c.lenHi = 0x00 ∧ b = 0x1C then .lenLoOk b else .lenLoBad b) ∧
    (4 ≤ c.pos.toNat → c.pos.toNat ≤ 27 → selectByte c b = .bodyMeas b) ∧
    (28 ≤ c.pos.toNat → c.pos.toNat ≤ 29 → selectByte c b = .bodyRsv b) ∧
    (c.pos.toNat = 30 → selectByte c b = .ckHi b) ∧
    (c.pos.toNat = 31 → selectByte c b =
      if c.acc = be16 c.ckHi b then .ckLoOk b else .ckLoBad b) := by
  have h0 : c.pos = 0 ↔ c.pos.toNat = 0 := pos_eq_iff _ 0 (by omega)
  have h1 : c.pos = 1 ↔ c.pos.toNat = 1 := pos_eq_iff _ 1 (by omega)
  have h2 : c.pos = 2 ↔ c.pos.toNat = 2 := pos_eq_iff _ 2 (by omega)
  have h3 : c.pos = 3 ↔ c.pos.toNat = 3 := pos_eq_iff _ 3 (by omega)
  have h30 : c.pos = 30 ↔ c.pos.toNat = 30 := pos_eq_iff _ 30 (by omega)
  simp only [selectByte, h0, h1, h2, h3, h30, hs, be16_eq_frameLen, Config.mark1, Config.mark2,
    ne_eq, not_true_eq_false, if_false]
  generalize c.pos.toNat = p
  refine ⟨?_, ?_, ?_, ?_, ?_, ?_, ?_, ?_⟩
  · rintro rfl; simp
  · rintro rfl; simp
  · rintro rfl; simp
  · rintro rfl; simp
  · intro hl hu
    have : p ≠ 0 ∧ p ≠ 1 ∧ p ≠ 2 ∧ p ≠ 3 := by omega
    simp [this, hu]
  · intro hl hu
    have : p ≠ 0 ∧ p ≠ 1 ∧ p ≠ 2 ∧ p ≠ 3 ∧ ¬ p ≤ 27 := by omega
    simp [this, hu]
  · rintro rfl; simp
  · rintro rfl; simp

/-- The codes of `SESS` read back, and code 3 is refused (R11, V2). -/
theorem sess_ofCode_code (x : Sess) : Sess.ofCode x.code = some x := by cases x <;> decide

theorem sess_ofCode_three : Sess.ofCode 3 = none := by decide

/-- The codes of `OUTCOME` read back, and codes 5 to 7 are refused (R12, V3). -/
theorem outcome_ofCode_code (x : SessionOutcome) : SessionOutcome.ofCode x.code = some x := by
  cases x <;> decide

theorem outcome_ofCode_unused :
    SessionOutcome.ofCode 5 = none ∧ SessionOutcome.ofCode 6 = none ∧
      SessionOutcome.ofCode 7 = none := by decide

/-- The constants of the frame agree with each other (R6, R60, R61). -/
theorem config_consistent :
    Config.frameLen.toNat = Config.bodyBytes ∧ Config.bodyBytes = Config.dataBytes + 2 ∧
      Config.frameBytes = 4 + Config.bodyBytes ∧ Config.dataBytes = 2 * Config.nMeas + 2 := by
  decide

end Sys2Proof
end

