-- ==== Sys2Proof/Tests/Slice0.lean ====
section
/-! SUPPORT. The model's own tests. Expected values come from the examples of the rules and from
95_test_vectors.md, named in each docstring. Then, for every statement of the obligations that has
hypotheses, a witness that meets them. -/

namespace Sys2Proof.Tests

open Sys2Proof.Machine

/-! ### Well-formedness: an ill-formed term for each check is refused -/

theorem test_wellFormed_refuses_skip_of_mark1 : (Instr.synSkip 0x42).wellFormed = false := by decide
theorem test_wellFormed_refuses_drop_of_mark2 : (Instr.synDrop 0x4D).wellFormed = false := by decide
theorem test_wellFormed_refuses_length_29 : (Instr.lenLoOk 0x1D).wellFormed = false := by decide
theorem test_wellFormed_admits_drop_of_mark1 : (Instr.synDrop 0x42).wellFormed = true := by decide

/-! ### Decoding: words written out as `{kind, operand}` (R67), in a state the row of R68 names -/

/-- A running session at a position. -/
def at_ (p : Pos) : Ctx := { Ctx.afterReset with sess := .running, pos := p }

/-- A session that is done. -/
def ended : Ctx := { Ctx.afterReset with sess := .done }

theorem test_decode_reset : decode (at_ 7) 0x600000000 = .ok .reset := by rfl
theorem test_decode_startRun : decode ended 0x500000007 = .ok (.startRun 7) := by rfl
theorem test_decode_startIgn : decode (at_ 0) 0x500000009 = .ok (.startIgn 9) := by rfl
theorem test_decode_tickDec :
    decode { at_ 1 with timer := 2 } 0x300000000 = .ok .tickDec := by rfl
theorem test_decode_tickExp : decode (at_ 1) 0x300000000 = .ok .tickExp := by rfl
theorem test_decode_tickIgn : decode ended 0x300000000 = .ok .tickIgn := by rfl
theorem test_decode_cancelFin : decode (at_ 20) 0x400000000 = .ok .cancelFin := by rfl
theorem test_decode_cancelIgn : decode ended 0x400000000 = .ok .cancelIgn := by rfl
theorem test_decode_ioerrFin : decode (at_ 31) 0x200000000 = .ok .ioerrFin := by rfl
theorem test_decode_ioerrIgn : decode ended 0x200000000 = .ok .ioerrIgn := by rfl
theorem test_decode_byteIgn : decode ended 0x100000042 = .ok (.byteIgn 0x42) := by rfl
theorem test_decode_nop : decode (at_ 12) 0x000000000 = .ok .nop := by rfl
theorem test_decode_synM1 : decode (at_ 0) 0x100000042 = .ok .synM1 := by rfl
theorem test_decode_synSkip : decode (at_ 0) 0x10000004D = .ok (.synSkip 0x4D) := by rfl
theorem test_decode_synM2 : decode (at_ 1) 0x10000004D = .ok .synM2 := by rfl
theorem test_decode_synRearm : decode (at_ 1) 0x100000042 = .ok .synRearm := by rfl
theorem test_decode_synDrop : decode (at_ 1) 0x100000000 = .ok (.synDrop 0x00) := by rfl
/-- V-SYN-7: with `REARM = 0` a second `0x42` is dropped. -/
theorem test_decode_synDrop_without_rearm :
    decode { at_ 1 with rearm := false } 0x100000042 = .ok (.synDrop 0x42) := by rfl
theorem test_decode_lenHi : decode (at_ 2) 0x1000000FF = .ok (.lenHi 0xFF) := by rfl
theorem test_decode_lenLoOk : decode (at_ 3) 0x10000001C = .ok (.lenLoOk 0x1C) := by rfl
/-- V-LEN-5: the high byte is part of the comparison. -/
theorem test_decode_lenLoBad :
    decode { at_ 3 with lenHi := 0x01 } 0x10000001C = .ok (.lenLoBad 0x1C) := by rfl
theorem test_decode_bodyMeas_first : decode (at_ 4) 0x100000042 = .ok (.bodyMeas 0x42) := by rfl
theorem test_decode_bodyMeas_last : decode (at_ 27) 0x100000078 = .ok (.bodyMeas 0x78) := by rfl
theorem test_decode_bodyRsv_first : decode (at_ 28) 0x100000097 = .ok (.bodyRsv 0x97) := by rfl
theorem test_decode_bodyRsv_last : decode (at_ 29) 0x1000000FF = .ok (.bodyRsv 0xFF) := by rfl
theorem test_decode_ckHi : decode (at_ 30) 0x100000003 = .ok (.ckHi 0x03) := by rfl
theorem test_decode_ckLoOk :
    decode { at_ 31 with acc := 0x03B7, ckHi := 0x03 } 0x1000000B7 = .ok (.ckLoOk 0xB7) := by rfl
/-- V-CK-8: the checksum is big-endian. -/
theorem test_decode_ckLoBad :
    decode { at_ 31 with acc := 0x03B7, ckHi := 0xB7 } 0x100000003 = .ok (.ckLoBad 0x03) := by rfl

/-- V1: kind code 7 is refused. -/
theorem test_decode_refuses_kind_7 : decode ended 0x700000000 = .error .reservedKind := by rfl
/-- V5: a non-zero unused operand bit is refused, for E0 and for EB. -/
theorem test_decode_refuses_tick_operand :
    decode ended 0x300000001 = .error .unusedOperandBits := by rfl
theorem test_decode_refuses_byte_operand_bit_8 :
    decode ended 0x100000142 = .error .unusedOperandBits := by rfl

theorem test_encode_start : encode (.startRun 5) = 0x500000005 := by decide
theorem test_encode_byte : encode (.bodyMeas 0xB7) = 0x1000000B7 := by decide

theorem test_tableWord_start : decodeTableWord 40 0x500000000 = some (.startRun 0) := by rfl
theorem test_tableWord_too_wide : decodeTableWord 40 0x800000000 = none := by rfl

/-! ### One step on a small state -/

/-- A running session at a position with an accumulator. -/
def runningAt (p : Pos) (a : Half) : State :=
  { State.reset with sess := .running, pos := p, acc := a }

/-- The state after an operation, if it gives one. -/
def after (i : Instr) (s : State) : Option State := nextOf (exec i s)

/-- A session that delivered. -/
def delivered : State :=
  { State.reset with sess := .done, outcome := .ok, meas := zeroMeas.set 0 10 }

/-- R90: state `POS=0 ACC=0x0000`, event `42`. -/
theorem test_synM1 :
    (after .synM1 (runningAt 0 0)).map (fun t => (t.pos, t.acc)) = some (1, 0x0042) := by decide
/-- R91. -/
theorem test_synSkip : after (.synSkip 0x4D) (runningAt 0 0) = some (runningAt 0 0) := by decide
/-- R92. -/
theorem test_synM2 :
    (after .synM2 (runningAt 1 0x42)).map (fun t => (t.pos, t.acc)) = some (2, 0x008F) := by decide
/-- V-SYN-6: `ACC` is `0x0042` after the second byte, not `0x0084`. -/
theorem test_synRearm : after .synRearm (runningAt 1 0x42) = some (runningAt 1 0x42) := by decide
/-- R94. -/
theorem test_synDrop : after (.synDrop 0x00) (runningAt 1 0x42) = some (runningAt 0 0) := by decide
/-- V-LEN-6: the largest `ACC` before the check. -/
theorem test_lenHi :
    (after (.lenHi 0xFF) (runningAt 2 0x8F)).map (fun t => (t.pos, t.acc, t.lenHi)) =
      some (3, 0x018E, 0xFF) := by decide
/-- R101. -/
theorem test_lenLoOk :
    (after (.lenLoOk 0x1C) (runningAt 3 0x8F)).map (fun t => (t.pos, t.acc)) =
      some (4, 0x00AB) := by decide
/-- R102: state `POS=3 ACC=0x008F LENHI=0x00`, event `1D`. -/
theorem test_lenLoBad : after (.lenLoBad 0x1D) (runningAt 3 0x8F) = some (runningAt 0 0) := by decide
/-- R110: state `POS=5 ACC=0x00AB`, event `0A`. -/
theorem test_bodyMeas :
    (after (.bodyMeas 0x0A) (runningAt 5 0xAB)).map (fun t => (t.pos, t.acc, t.buf[1])) =
      some (6, 0x00B5, 0x0A) := by decide
/-- V-BODY-6: the boundary between BODY.MEAS and BODY.RSV. -/
theorem test_bodyMeas_last :
    (after (.bodyMeas 0x78) (runningAt 27 0x33F)).map (fun t => (t.pos, t.acc, t.buf[23])) =
      some (28, 0x03B7, 0x78) := by decide
/-- V-BODY-2: the reserved field is added. -/
theorem test_bodyRsv :
    (after (.bodyRsv 0x97) (runningAt 28 0x248)).map (fun t => (t.pos, t.acc, t.buf[24])) =
      some (29, 0x02DF, 0x97) := by decide
/-- V-BODY-7: the largest reachable `ACC`. -/
theorem test_bodyRsv_largest :
    (after (.bodyRsv 0xFF) (runningAt 29 0x1992)).map (fun t => (t.pos, t.acc)) =
      some (30, 0x1A91) := by decide
/-- R112, V-BODY-3: not added. -/
theorem test_ckHi :
    (after (.ckHi 0x03) (runningAt 30 0x3B7)).map (fun t => (t.pos, t.acc, t.buf[26])) =
      some (31, 0x03B7, 0x03) := by decide

/-- Frame A of 95_test_vectors.md section 0. -/
def frameA : Frame :=
  #v[0x42, 0x4D, 0x00, 0x1C, 0x00, 0x0A, 0x00, 0x14, 0x00, 0x1E, 0x00, 0x28, 0x00, 0x32, 0x00, 0x3C,
    0x00, 0x46, 0x00, 0x50, 0x00, 0x5A, 0x00, 0x64, 0x00, 0x6E, 0x00, 0x78, 0x00, 0x00, 0x03, 0xB7]

/-- Frame B of 95_test_vectors.md section 0; `RSV = 0x9700`. -/
def frameB : Frame :=
  #v[0x42, 0x4D, 0x00, 0x1C, 0x00, 0x05, 0x00, 0x08, 0x00, 0x09, 0x00, 0x05, 0x00, 0x08, 0x00, 0x09,
    0x03, 0xF6, 0x01, 0x2C, 0x00, 0x43, 0x00, 0x07, 0x00, 0x01, 0x00, 0x00, 0x97, 0x00, 0x02, 0xDF]

/-- The state after 31 bytes of frame A with the deadline due: the start state of P8. -/
def beforeLast : State :=
  { runningAt 31 0x03B7 with
    buf := #v[0x00, 0x0A, 0x00, 0x14, 0x00, 0x1E, 0x00, 0x28, 0x00, 0x32, 0x00, 0x3C, 0x00, 0x46,
      0x00, 0x50, 0x00, 0x5A, 0x00, 0x64, 0x00, 0x6E, 0x00, 0x78, 0x00, 0x00, 0x03, 0x00] }

/-- R120, V-CK-1. -/
theorem test_ckLoOk_meas :
    (after (.ckLoOk 0xB7) beforeLast).map (·.meas) =
      some #v[10, 20, 30, 40, 50, 60, 70, 80, 90, 100, 110, 120] := by decide
theorem test_ckLoOk_session :
    (after (.ckLoOk 0xB7) beforeLast).map (fun t => (t.sess, t.outcome, t.pos, t.acc, t.buf[0])) =
      some (.done, .ok, 0, 0, 0) := by decide
/-- V-CK-6: off by one. -/
theorem test_ckLoBad : after (.ckLoBad 0xB8) beforeLast = some (runningAt 0 0) := by decide
/-- R130. -/
theorem test_reset : after .reset delivered = some State.reset := by decide
/-- R131: state `SESS=DONE OUTCOME=OK MEAS=[10, ...]`, event `START 7`. -/
theorem test_startRun : after (.startRun 7) delivered = some { runningAt 0 0 with timer := 7 } := by
  decide
/-- R132, V-SES-3. -/
theorem test_startIgn :
    (after (.startIgn 9) { runningAt 0 0 with timer := 6 }).map (·.timer) = some 6 := by decide
/-- R133. -/
theorem test_tickDec :
    after .tickDec { runningAt 1 0x42 with timer := 2 } = some { runningAt 1 0x42 with timer := 1 } := by
  decide
/-- R134. -/
theorem test_tickExp :
    (after .tickExp (runningAt 1 0x42)).map (fun t => (t.sess, t.outcome, t.pos, t.acc)) =
      some (.done, .timeout, 0, 0) := by decide
theorem test_tickIgn : after .tickIgn delivered = some delivered := by decide
/-- R136. -/
theorem test_cancelFin :
    (after .cancelFin { runningAt 20 0x213 with timer := 10 }).map
      (fun t => (t.sess, t.outcome, t.pos, t.acc, t.timer)) =
      some (.done, .cancelled, 0, 0, 0) := by decide
theorem test_cancelIgn : after .cancelIgn delivered = some delivered := by decide
/-- R138. -/
theorem test_ioerrFin :
    (after .ioerrFin beforeLast).map (fun t => (t.sess, t.outcome, t.pos, t.acc, t.meas[0])) =
      some (.done, .ioFailure, 0, 0, 0) := by decide
theorem test_ioerrIgn : after .ioerrIgn delivered = some delivered := by decide
/-- R140. -/
theorem test_byteIgn : after (.byteIgn 0x42) delivered = some delivered := by decide
/-- R141. -/
theorem test_nop : after .nop (runningAt 12 0x10F) = some (runningAt 12 0x10F) := by decide
/-- An operation that R68 does not select is refused. -/
theorem test_unselected : after .synM1 (runningAt 5 0xAB) = none := by decide

/-- A table word is the next event after reset. -/
theorem test_step_of_table_word :
    nextOf (step (State.reset.withFetchWord 40 0x500000007)) =
      some { runningAt 0 0 with timer := 7 } := by decide
/-- A step with nothing delivered is NOP (R26). -/
theorem test_step_of_nothing : nextOf (step (runningAt 12 0x10F)) = some (runningAt 12 0x10F) := by
  decide
/-- A word of kind 7 is refused (V1). -/
theorem test_step_of_reserved_word :
    step { runningAt 0 0 with input := [0x700000000] } =
      .refused (.malformedEvent .reservedKind) := by rfl

/-- P8, third row: `cancel`, `tick` and the last byte of a good frame give CANCELLED. -/
theorem test_clock_cancel_first :
    (nextOf (clock { Pins.idle with cancel := true, tick := true, rxValid := true, rxData := 0xB7 }
      beforeLast)).map (·.outcome) = some .cancelled := by decide
/-- P8, second row: an expiring `tick` and the last byte give TIMEOUT. -/
theorem test_clock_tick_before_byte :
    (nextOf (clock { Pins.idle with tick := true, rxValid := true, rxData := 0xB7 }
      beforeLast)).map (·.outcome) = some .timeout := by decide
/-- P8, fifth row: the last byte and `start` begin a new session. -/
theorem test_clock_byte_then_start :
    nextOf (clock { Pins.idle with rxValid := true, rxData := 0xB7, start := true, timeoutTicks := 4 }
      beforeLast) = some { runningAt 0 0 with timer := 4 } := by decide

theorem test_outputs :
    delivered.outputs =
      { busy := false, done := true, srcOpen := false, outcome := 1, measValid := true,
        meas := #v[10, 0, 0, 0, 0, 0, 0, 0, 0, 0, 0, 0] } := by decide
theorem test_stage :
    stageOf 3 = .lengthLow ∧ stageOf 4 = .measurement ∧ stageOf 27 = .measurement ∧
      stageOf 28 = .reserved ∧ stageOf 30 = .checksumHigh ∧ stageOf 31 = .checksumLow := by decide
theorem test_quantity : delivered.quantity .pm1Standard = 10 := by decide
/-- Frames A and B are well formed; frame B with `CK = 0x0248` is not (V-BODY-2). -/
theorem test_frames :
    frameA.WellFormed ∧ frameB.WellFormed ∧ frameB.rsv = 0x9700 ∧ frameB.meas[6] = 1014 ∧
      ¬ Frame.WellFormed ((frameB.set 30 0x02).set 31 0x48) := by decide
/-- R72: frame A is `FRAME(10, ..., 120; 0)`. -/
theorem test_frame_builder :
    frameBytes #v[10, 20, 30, 40, 50, 60, 70, 80, 90, 100, 110, 120] 0 = frameA.toList := by decide
theorem test_script :
    expandScript [.event (.start 5), .ticks 2, .read 3 (.returned [0x42, 0x4D]), .read 1 .ioError] =
      [.start 5, .tick, .tick, .byte 0x42, .byte 0x4D, .nop, .ioerr] := by decide

/-! ### Witnesses: for every statement with hypotheses, a state that meets them -/

/-- A running session at `POS = 0` meets the invariants. -/
theorem inv_home (p : Params) : Inv { runningAt 0 0 with params := p } := by
  cases p with | mk r => cases r <;> constructor <;> decide

theorem inv_armed : Inv (runningAt 1 0x42) := by constructor <;> decide
theorem inv_synced : Inv (runningAt 2 0x8F) := by constructor <;> decide
theorem inv_length : Inv (runningAt 3 0x8F) := by constructor <;> decide
theorem inv_beforeLast : Inv beforeLast := by constructor <;> decide
theorem inv_delivered : Inv delivered := by constructor <;> decide

/-- A running session at `POS = 0` with one event word delivered. -/
def queued (w : EventWord) : State := { runningAt 0 0 with input := [w] }

/-- A running session with `REARM = 0`. -/
def noRearm (p : Pos) (a : Half) : State := { runningAt p a with params := { rearm := false } }

/-- `POS = 3` after the first length byte `0xFF`: `ACC` is 398. -/
def wrongLength : State := { runningAt 3 0x18E with lenHi := 0xFF }

/-- Frame A with its checksum field replaced by `FF FF` (S2). -/
def frameBad : Frame := (frameA.set 30 0xFF).set 31 0xFF

/-- Frame A with the reserved field `0x0001` and the checksum that belongs to it. -/
def frameC : Frame := (frameA.set 29 0x01).set 31 0xB8

theorem witness_EveryStepKeepsTheInvariants :
    Inv (queued 0x100000042) ∧ ∃ t, step (queued 0x100000042) = .next t := by
  refine ⟨?_, _, rfl⟩
  constructor <;> decide

theorem witness_StepRunsTheDecodedOperation :
    ((queued 0x100000042).input = 0x100000042 :: [] ∧
      decode (queued 0x100000042).ctx 0x100000042 = .ok .synM1) ∧ State.reset.input = [] :=
  ⟨⟨rfl, rfl⟩, rfl⟩

theorem witness_StepIsTotalOnWellFormedEvents :
    ((queued 0x700000000).input = 0x700000000 :: [] ∧ MalformedWord 0x700000000) ∧
    ((queued 0x300000001).input = 0x300000001 :: [] ∧ MalformedWord 0x300000001) ∧
    ((queued 0x100000100).input = 0x100000100 :: [] ∧ MalformedWord 0x100000100) ∧
    (∀ w ws, (queued 0x1000000FF).input = w :: ws → ¬ MalformedWord w) ∧
    ∀ w ws, State.reset.input = w :: ws → ¬ MalformedWord w := by
  refine ⟨by decide, by decide, by decide, ?_, ?_⟩
  · intro w ws h
    cases h
    decide
  · intro w ws h
    cases h

theorem witness_EventWordsRoundTrip :
    decodeEvent 0x1000000B7 = .ok (.byte 0xB7) ∧ decodeEvent 0x5FFFFFFFF = .ok (.start 0xFFFFFFFF) ∧
      decodeEvent 0x700000000 = .error .reservedKind :=
  ⟨rfl, rfl, rfl⟩

theorem witness_DecodeOfEncodeIsTheOperation :
    (Instr.lenLoOk 0x1C).wellFormed = true ∧ rowFits (at_ 3) (.lenLoOk 0x1C) = true := by decide

theorem witness_DecodedOperationFitsItsRow :
    decode (at_ 27) 0x1000000FF = .ok (.bodyMeas 0xFF) := rfl

theorem witness_OperationMapOfTheSession :
    Ctx.afterReset.sess = .ready ∧ ended.sess = .done ∧
    ((at_ 0).sess = .running ∧ (at_ 0).timer = 0) ∧
    ((at_ 0).sess = .running ∧ { at_ 0 with timer := 1 }.timer ≠ 0) := by decide

/-- One context for each clause, at the ends of its range of `POS`. -/
theorem witness_OperationMapOfTheBytes :
    (∀ p : Pos, (at_ p).sess = .running ∧ (at_ p).pos = p) ∧
    (0 : Pos).toNat = 0 ∧ (1 : Pos).toNat = 1 ∧ (2 : Pos).toNat = 2 ∧ (3 : Pos).toNat = 3 ∧
    (4 ≤ (4 : Pos).toNat ∧ (4 : Pos).toNat ≤ 27) ∧ (4 ≤ (27 : Pos).toNat ∧ (27 : Pos).toNat ≤ 27) ∧
    (28 ≤ (28 : Pos).toNat ∧ (28 : Pos).toNat ≤ 29) ∧
    (28 ≤ (29 : Pos).toNat ∧ (29 : Pos).toNat ≤ 29) ∧ (30 : Pos).toNat = 30 ∧
    (31 : Pos).toNat = 31 ∧ (0x43 : Byte) ≠ 0x4D ∧ (0x43 : Byte) ≠ 0x42 :=
  ⟨fun _ => ⟨rfl, rfl⟩, by decide⟩

theorem witness_DecodedWordsFitTheOpcodeTable :
    decode (at_ 1) 0x10000004D = .ok .synM2 := rfl

theorem witness_StartBeginsASession : State.reset.sess = .ready ∧ delivered.sess = .done := by decide

theorem witness_IgnoringOperationsChangeNothing :
    (runningAt 0 0).sess = .running ∧ State.reset.sess = .ready ∧ delivered.sess = .done := by decide

theorem witness_TickCountsDown :
    ({ runningAt 1 0x42 with timer := 1 }.sess = .running ∧
      { runningAt 1 0x42 with timer := 1 }.timer ≠ 0) ∧
    { runningAt 1 0x42 with timer := 0xFFFFFFFF }.timer ≠ 0 := by decide

theorem witness_TickAtZeroTimesOut : beforeLast.sess = .running ∧ beforeLast.timer = 0 := by decide

theorem witness_CancelEndsTheSession : beforeLast.sess = .running := by decide

theorem witness_ReadErrorEndsTheSession : (runningAt 0 0).sess = .running := by decide

theorem witness_MarkerBytesAreCounted :
    ((runningAt 0 0).sess = .running ∧ (runningAt 0 0).pos = 0) ∧
    (runningAt 1 0x42).sess = .running ∧ (runningAt 1 0x42).pos = 1 := by decide

theorem witness_NoiseIsSkipped :
    (runningAt 0 0).sess = .running ∧ (runningAt 0 0).pos = 0 ∧ (0x43 : Byte) ≠ 0x42 := by decide

theorem witness_SecondFirstMarkerRearms :
    ((runningAt 1 0x42).sess = .running ∧ (runningAt 1 0x42).pos = 1 ∧
      (runningAt 1 0x42).params.rearm = true) ∧ Inv (runningAt 1 0x42) :=
  ⟨by decide, inv_armed⟩

theorem witness_BrokenMarkerDrops :
    ((runningAt 1 0x42).sess = .running ∧ (runningAt 1 0x42).pos = 1 ∧ (0x00 : Byte) ≠ 0x4D ∧
      ((0x00 : Byte) = 0x42 → (runningAt 1 0x42).params.rearm = false)) ∧
    ((noRearm 1 0x42).sess = .running ∧ (noRearm 1 0x42).pos = 1 ∧ (0x42 : Byte) ≠ 0x4D ∧
      ((0x42 : Byte) = 0x42 → (noRearm 1 0x42).params.rearm = false)) := by decide

theorem witness_FirstLengthByte :
    (runningAt 2 0x8F).sess = .running ∧ (runningAt 2 0x8F).pos = 2 := by decide

theorem witness_LengthTwentyEightPasses :
    ((runningAt 3 0x8F).sess = .running ∧ (runningAt 3 0x8F).pos = 3 ∧
      (runningAt 3 0x8F).lenHi = 0x00) ∧ Inv (runningAt 3 0x8F) :=
  ⟨by decide, inv_length⟩

theorem witness_OtherLengthsRestartTheScan :
    ((runningAt 3 0x8F).sess = .running ∧ (runningAt 3 0x8F).pos = 3 ∧
      256 * (runningAt 3 0x8F).lenHi.toNat + (0x1B : Byte).toNat ≠ 28) ∧
    (wrongLength.sess = .running ∧ wrongLength.pos = 3 ∧
      256 * wrongLength.lenHi.toNat + (0x1C : Byte).toNat ≠ 28) := by decide

/-- Both operations, at both ends of their ranges of `POS`. -/
theorem witness_DataBytesAreStoredAndCounted :
    (∀ p : Pos, (runningAt p 0xAB).sess = .running ∧ (runningAt p 0xAB).pos = p) ∧
    (4 ≤ (4 : Pos).toNat ∧ (4 : Pos).toNat ≤ 27) ∧ (4 ≤ (27 : Pos).toNat ∧ (27 : Pos).toNat ≤ 27) ∧
    (28 ≤ (28 : Pos).toNat ∧ (28 : Pos).toNat ≤ 29) ∧
    (28 ≤ (29 : Pos).toNat ∧ (29 : Pos).toNat ≤ 29) :=
  ⟨fun _ => ⟨rfl, rfl⟩, by decide⟩

theorem witness_HighChecksumByteIsNotCounted :
    (runningAt 30 0x3B7).sess = .running ∧ (runningAt 30 0x3B7).pos = 30 := by decide

theorem witness_MatchingChecksumDelivers :
    beforeLast.sess = .running ∧ beforeLast.pos = 31 ∧
      beforeLast.acc.toNat = 256 * beforeLast.buf[26].toNat + (0xB7 : Byte).toNat := by decide

theorem witness_WrongChecksumRestartsTheScan :
    beforeLast.sess = .running ∧ beforeLast.pos = 31 ∧
      beforeLast.acc.toNat ≠ 256 * beforeLast.buf[26].toNat + (0xB8 : Byte).toNat := by decide

theorem witness_UnselectedOperationsAreRefused :
    rowFits beforeLast.ctx (.ckLoOk 0xB7) = true ∧ rowFits beforeLast.ctx (.ckLoOk 0xB8) = false := by
  decide

/-- All five kinds. -/
theorem witness_RaisedErrorsHaveTheEffectOfTheirClass :
    (raised .ioerrFin = some .ioFailure ∧ ∃ t, exec .ioerrFin beforeLast = .next t) ∧
    (raised .tickExp = some .timeout ∧ ∃ t, exec .tickExp beforeLast = .next t) ∧
    (raised .cancelFin = some .cancelled ∧ ∃ t, exec .cancelFin beforeLast = .next t) ∧
    (raised (.lenLoBad 0x1B) = some .badFrameLength ∧
      ∃ t, exec (.lenLoBad 0x1B) (runningAt 3 0x8F) = .next t) ∧
    (raised (.ckLoBad 0xB8) = some .checksumMismatch ∧
      ∃ t, exec (.ckLoBad 0xB8) beforeLast = .next t) :=
  ⟨⟨rfl, _, rfl⟩, ⟨rfl, _, rfl⟩, ⟨rfl, _, rfl⟩, ⟨rfl, _, rfl⟩, ⟨rfl, _, rfl⟩⟩

/-- A change of `SESS` to each of its values. -/
theorem witness_SessionStatusTransitions :
    State.reset.sess ≠ .running ∧ delivered.sess ≠ .running ∧
    (∃ t, exec (.startRun 0) delivered = .next t ∧ t.sess ≠ delivered.sess ∧ t.sess = .running) ∧
    (∃ t, exec .cancelFin beforeLast = .next t ∧ t.sess ≠ beforeLast.sess ∧ t.sess = .done) ∧
    (∃ t, exec .reset beforeLast = .next t ∧ t.sess ≠ beforeLast.sess ∧ t.sess = .ready) :=
  ⟨by decide, by decide, ⟨_, rfl, by decide⟩, ⟨_, rfl, by decide⟩, ⟨_, rfl, by decide⟩⟩

/-- A change of `OUTCOME` to each of its values. -/
theorem witness_OutcomeCodesAndCauses :
    (∃ t, exec .reset delivered = .next t ∧ t.outcome ≠ delivered.outcome ∧ t.outcome = .none) ∧
    (∃ t, exec (.ckLoOk 0xB7) beforeLast = .next t ∧ t.outcome ≠ beforeLast.outcome ∧
      t.outcome = .ok) ∧
    (∃ t, exec .ioerrFin beforeLast = .next t ∧ t.outcome ≠ beforeLast.outcome ∧
      t.outcome = .ioFailure) ∧
    (∃ t, exec .tickExp beforeLast = .next t ∧ t.outcome ≠ beforeLast.outcome ∧
      t.outcome = .timeout) ∧
    (∃ t, exec .cancelFin beforeLast = .next t ∧ t.outcome ≠ beforeLast.outcome ∧
      t.outcome = .cancelled) :=
  ⟨⟨_, rfl, by decide⟩, ⟨_, rfl, by decide⟩, ⟨_, rfl, by decide⟩, ⟨_, rfl, by decide⟩,
    ⟨_, rfl, by decide⟩⟩

/-- An advance to the last position, a stay and a return. -/
theorem witness_PositionAdvancesStaysOrReturns :
    (isPipeline (.ckHi 0x03) = true ∧ ∃ t, exec (.ckHi 0x03) (runningAt 30 0x3B7) = .next t) ∧
    (isPipeline .synRearm = true ∧ ∃ t, exec .synRearm (runningAt 1 0x42) = .next t) ∧
    (isPipeline (.ckLoBad 0xB8) = true ∧ ∃ t, exec (.ckLoBad 0xB8) beforeLast = .next t) :=
  ⟨⟨rfl, _, rfl⟩, ⟨rfl, _, rfl⟩, ⟨rfl, _, rfl⟩⟩

/-- A step that writes each class of elements. -/
theorem witness_OwnershipOfTheState :
    (∃ t, exec .synM1 (runningAt 0 0) = .next t ∧
      (t.pos, t.acc, t.lenHi, t.buf) ≠
        ((runningAt 0 0).pos, (runningAt 0 0).acc, (runningAt 0 0).lenHi, (runningAt 0 0).buf)) ∧
    (∃ t, exec .tickDec { runningAt 0 0 with timer := 1 } = .next t ∧ t.timer ≠ 1) ∧
    (∃ t, exec .cancelFin beforeLast = .next t ∧
      (t.sess, t.outcome) ≠ (beforeLast.sess, beforeLast.outcome)) ∧
    (∃ t, exec (.ckLoOk 0xB7) beforeLast = .next t ∧ t.meas ≠ beforeLast.meas) :=
  ⟨⟨_, rfl, by decide⟩, ⟨_, rfl, by decide⟩, ⟨_, rfl, by decide⟩, ⟨_, rfl, by decide⟩⟩

theorem witness_MeasurementIsNeverPartial :
    ∃ t, exec (.ckLoOk 0xB7) beforeLast = .next t ∧ t.meas ≠ beforeLast.meas :=
  ⟨_, rfl, by decide⟩

theorem witness_SourceIsOpenExactlyWhileRunning :
    (∃ t, exec (.startRun 3) State.reset = .next t ∧ opensSource State.reset t) ∧
    ∃ t, exec .tickExp beforeLast = .next t ∧ closesSource beforeLast t :=
  ⟨⟨_, rfl, rfl, rfl⟩, ⟨_, rfl, rfl, rfl⟩⟩

/-- The largest `ACC` before the length check, and a state at the verification step. -/
theorem witness_AccumulatorNeverOverflows :
    (Inv wrongLength ∧ wrongLength.pos.toNat ≤ 3 ∧ wrongLength.acc.toNat = 398) ∧
    Inv beforeLast ∧ beforeLast.pos.toNat = 31 :=
  ⟨⟨by constructor <;> decide, by decide⟩, inv_beforeLast, by decide⟩

theorem witness_ChecksumRange :
    (frameBad[0] = 0x42 ∧ frameBad[1] = 0x4D ∧ frameBad[2] = 0x00 ∧ frameBad[3] = 0x1C) ∧
      frameA.WellFormed := by decide

theorem witness_BuiltFramesAreWellFormed :
    frameA.toList = frameBytes #v[10, 20, 30, 40, 50, 60, 70, 80, 90, 100, 110, 120] 0 := by decide

theorem witness_QueuedEventsRunInOrder : beforeLast.input = [] := rfl

theorem witness_ShortReadsResume :
    ([0x42] : List Byte).length + ([0x4D] : List Byte).length = 2 ∧
      ([] : List Byte).length + ([0x4D] : List Byte).length = 1 := by decide

theorem witness_StrapIsConstantInASession :
    ((runningAt 1 0x42).sess = .running ∧ (runningAt 1 0x42).params.rearm ≠ false) ∧
    delivered.sess ≠ .running ∧ (runningAt 1 0x42).params.rearm = true := by decide

theorem witness_OneOutcomePerSession :
    Inv (runningAt 0 0) ∧ (runningAt 0 0).sess = .running ∧ [Event.tick].all notHost = true ∧
      [Event.byte 0x42, .ioerr, .cancel].all notHost = true ∧
      ∃ t, runEvents [.tick] (runningAt 0 0) = .next t ∧ t.outcome ≠ .none :=
  ⟨inv_home Params.default, by decide, by decide, by decide, _, rfl, by decide⟩

/-- Noise with no marker pair that ends in `0x42`, and noise that does not. -/
theorem witness_MarkerScanWithRearm :
    (Inv (runningAt 0 0) ∧ (runningAt 0 0).sess = .running ∧ (runningAt 0 0).pos = 0 ∧
      (runningAt 0 0).params.rearm = true) ∧
    hasMarker [0x4D, 0x42, 0x42] = false ∧ hasMarker [0x42, 0x00] = false ∧
    hasMarker ([0x4D, 0x42, 0x42] ++ [0x42]) = false :=
  ⟨⟨inv_home Params.default, by decide⟩, by decide⟩

/-- The runs of even and of odd length: `42 42` and `42`. -/
theorem witness_MarkerScanWithoutRearm :
    (Inv (noRearm 0 0) ∧ (noRearm 0 0).sess = .running ∧ (noRearm 0 0).pos = 0 ∧
      (noRearm 0 0).params.rearm = false) ∧
    (NoOddMarker [0x42, 0x42] ∧ trailingRun [0x42, 0x42] % 2 = 0) ∧
    (NoOddMarker [0x42] ∧ trailingRun [0x42] % 2 = 1) := by
  have absent : ∀ (bs : List Byte), 0x4D ∉ bs → NoOddMarker bs := fun bs h p q e =>
    absurd (by rw [e]; exact List.mem_append_right p List.mem_cons_self) h
  exact ⟨⟨inv_home { rearm := false }, by decide⟩, ⟨absent _ (by decide), by decide⟩,
    absent _ (by decide), by decide⟩

theorem witness_GoodFrameIsDelivered :
    State.reset.sess ≠ .running ∧ frameA.WellFormed ∧
      bytesIn (.tick :: .nop :: byteEvents frameA.toList) = frameA.toList ∧
      (.tick :: .nop :: byteEvents frameA.toList).all isQuiet = true ∧
      ticksIn (.tick :: .nop :: byteEvents frameA.toList) ≤ (1 : Ticks).toNat := by decide

theorem witness_GoodFrameAfterNoiseAndDamage :
    Inv (runningAt 0 0) ∧ (runningAt 0 0).sess = .running ∧ (runningAt 0 0).pos = 0 ∧
      (runningAt 0 0).params.rearm = true ∧ hasMarker [0x00, 0x42] = false ∧
      frameBad[0] = 0x42 ∧ frameBad[1] = 0x4D ∧ frameBad[2] = 0x00 ∧ frameBad[3] = 0x1C ∧
      256 * frameBad[30].toNat + frameBad[31].toNat ≠ frameBad.checksum ∧ frameB.WellFormed :=
  ⟨inv_home Params.default, by decide⟩

/-- Attempts of 1, 3 and 5 bytes, the first two of them at the ends of the clauses' ranges. -/
theorem witness_AttemptHoldsExactlyItsBytes :
    (Inv (runningAt 0 0) ∧ (runningAt 0 0).sess = .running ∧ (runningAt 0 0).pos = 0) ∧
    (∃ t, (byteEvents [0x42]).all notHost = true ∧
      runEvents (byteEvents [0x42]) (runningAt 0 0) = .next t ∧ t.sess = .running ∧
      t.pos.toNat = 1) ∧
    (∃ t, runEvents (byteEvents [0x42, 0x4D, 0x01]) (runningAt 0 0) = .next t ∧
      t.sess = .running ∧ t.pos.toNat = 3) ∧
    (∃ t, runEvents (byteEvents [0x42, 0x4D, 0x00, 0x1C, 0x07]) (runningAt 0 0) = .next t ∧
      t.sess = .running ∧ t.pos.toNat = 5) :=
  ⟨⟨inv_home Params.default, by decide⟩, ⟨_, by decide, rfl, by decide⟩, ⟨_, rfl, by decide⟩,
    ⟨_, rfl, by decide⟩⟩

theorem witness_CorruptFrameLeavesNoTrace :
    Inv (runningAt 0 0) ∧ (runningAt 0 0).sess = .running ∧ (runningAt 0 0).pos = 0 ∧
      frameBad[0] = 0x42 ∧ frameBad[1] = 0x4D ∧ frameBad[2] = 0x00 ∧ frameBad[3] = 0x1C ∧
      256 * frameBad[30].toNat + frameBad[31].toNat ≠ frameBad.checksum :=
  ⟨inv_home Params.default, by decide⟩

theorem witness_FalseMarkerSwallowsARealOne :
    Inv (runningAt 0 0) ∧ (runningAt 0 0).sess = .running ∧ (runningAt 0 0).pos = 0 ∧
      frameA.WellFormed :=
  ⟨inv_home Params.default, by decide⟩

theorem witness_ReservedFieldIsNeverDelivered :
    Inv (runningAt 0 0) ∧ (runningAt 0 0).sess = .running ∧ (runningAt 0 0).pos = 0 ∧
      frameA.WellFormed ∧ frameC.WellFormed ∧ frameA.meas = frameC.meas ∧
      frameA.rsv ≠ frameC.rsv :=
  ⟨inv_home Params.default, by decide⟩

theorem witness_ExchangedDataBytesVerify :
    4 ≤ 4 ∧ 4 ≤ 29 ∧ 29 < 30 ∧ frameC.WellFormed ∧ frameC[4] ≠ frameC[29] := by decide

/-- The three clauses on the run: over by its second TICK, timed out, still running after one TICK;
and a first TICK at once and a whole period after START. -/
theorem witness_SessionEndsByTickNPlusOne :
    State.reset.sess ≠ .running ∧ [Event.tick, .tick].all notHost = true ∧
    ((1 : Ticks).toNat + 1 ≤ ticksIn [.tick, .tick]) ∧
    (∃ t, runEvents [.start 1, .tick, .tick] State.reset = .next t ∧ t.outcome = .timeout) ∧
    (∃ t, runEvents [.start 1, .tick] State.reset = .next t ∧ t.sess = .running ∧
      ticksIn [.tick] = (1 : Ticks).toNat) ∧
    (0 < 1 ∧ 1 ≤ (Config.tickPeriod : Nat)) ∧
    0 < (Config.tickPeriod : Nat) ∧ (Config.tickPeriod : Nat) ≤ (Config.tickPeriod : Nat) :=
  ⟨by decide, by decide, by decide, ⟨_, rfl, by decide⟩, ⟨_, rfl, by decide⟩,
    ⟨by decide, Config.tickPeriod.pos⟩, Config.tickPeriod.pos, Nat.le_refl _⟩

theorem witness_CancelIsHonouredAtEveryStep :
    (∃ t, runEvents [.byte 0x42] (runningAt 0 0) = .next t ∧ t.sess = .running) ∧
      State.reset.sess ≠ .running :=
  ⟨⟨_, rfl, by decide⟩, by decide⟩

/-- A stale byte at body index 5 while `POS = 9` has not reached it. -/
theorem witness_StaleBufferBytesAreInvisible :
    sameButStaleBuf (runningAt 9 0xAB) { runningAt 9 0xAB with buf := zeroBuf.set 5 0x77 } ∧
      zeroBuf.set 5 0x77 ≠ zeroBuf := by
  refine ⟨⟨rfl, ?_⟩, by decide⟩
  decide

/-- One clock for each clause. -/
theorem witness_InputsOfOneClock :
    (beforeLast.sess = .running ∧ beforeLast.timer = 0) ∧
    ({ Pins.idle with cancel := true }.rst = false ∧ { Pins.idle with cancel := true }.start = false ∧
      { Pins.idle with cancel := true }.cancel = true) ∧
    ({ Pins.idle with tick := true }.cancel = false ∧ { Pins.idle with tick := true }.tick = true) ∧
    ({ Pins.idle with rxError := true }.tick = true → beforeLast.timer ≠ 0) ∧
    ({ Pins.idle with rxError := true, rxValid := true }.rxError = true) ∧
    ({ Pins.idle with start := true, cancel := true }.start = true ∧
      { Pins.idle with start := true, cancel := true }.cancel = true) ∧
    ({ Pins.idle with rst := true, start := true }.rst = true ∧
      { Pins.idle with rst := true, start := true }.start = true) ∧
    (Pins.idle.rst = false ∧ Pins.idle.start = false ∧ Pins.idle.cancel = false ∧
      Pins.idle.tick = false ∧ Pins.idle.rxError = false ∧ Pins.idle.rxValid = false) := by decide

end Sys2Proof.Tests
end

section
/-! PROOFS. The event queue of the model (00_scope.md R4, 20_memory.md R49): every event selects an
operation whose row fits, a queued event word reads back as its event, and no operation looks at the
queue; so the steps of the machine on a queue are the run of the events. -/

namespace Sys2Proof

/-! ### The selected row fits -/

/-- Outside a session a byte is ignored (row 11 of R68). -/
theorem selectByte_of_not_running {c : Ctx} (b : Byte) (h : c.sess ≠ .running) :
    selectByte c b = .byteIgn b := if_pos h

theorem pos_eq_of_toNat {p : Pos} {k : Nat} (h : p.toNat = k) : p = BitVec.ofNat 5 k := by
  rw [← h, BitVec.ofNat_toNat, BitVec.setWidth_eq]

/-- Each range of `POS`, and each guard in it, fits the row it selects (rows 13 to 25 of R68). -/
theorem rowFits_selectByte_of_running (c : Ctx) (b : Byte) (hs : c.sess = .running) :
    rowFits c (selectByte c b) = true := by
  obtain ⟨h0, h1, h2, h3, hMeas, hRsv, h30, h31⟩ := selectByte_by_range c b hs
  have hlt : c.pos.toNat < 32 := c.pos.isLt
  obtain h | h | h | h | ⟨hl, hu⟩ | h | h | h | h :
      c.pos.toNat = 0 ∨ c.pos.toNat = 1 ∨ c.pos.toNat = 2 ∨ c.pos.toNat = 3 ∨
        (4 ≤ c.pos.toNat ∧ c.pos.toNat ≤ 27) ∨ c.pos.toNat = 28 ∨ c.pos.toNat = 29 ∨
        c.pos.toNat = 30 ∨ c.pos.toNat = 31 := by omega
  · rw [h0 h]
    split
    · simp [rowFits, hs, pos_eq_of_toNat h]
    · next hb => simpa [rowFits, hs, pos_eq_of_toNat h] using hb
  · rw [h1 h]
    split
    · simp [rowFits, hs, pos_eq_of_toNat h]
    · next hb =>
      split
      · next hr => simp [rowFits, hs, pos_eq_of_toNat h, hr.2]
      · next hr => simpa [rowFits, hs, pos_eq_of_toNat h] using And.intro hb (not_and_or.1 hr)
  · rw [h2 h]
    simp [rowFits, hs, pos_eq_of_toNat h]
  · rw [h3 h]
    split
    · next hlen => simp [rowFits, hs, pos_eq_of_toNat h, hlen]
    · next hlen => simpa [rowFits, hs, pos_eq_of_toNat h] using not_and_or.1 hlen
  · rw [hMeas hl hu]
    simp [rowFits, hs, hl, hu]
  · rw [hRsv (by omega) (by omega)]
    simp [rowFits, hs, pos_eq_of_toNat h]
  · rw [hRsv (by omega) (by omega)]
    simp [rowFits, hs, pos_eq_of_toNat h]
  · rw [h30 h]
    simp [rowFits, hs, pos_eq_of_toNat h]
  · rw [h31 h]
    split
    · next hck => simp [rowFits, hs, pos_eq_of_toNat h, ← hck]
    · next hck => simp [rowFits, hs, pos_eq_of_toNat h, hck]

/-- The operation map selects an operation whose row of R68 fits the state. -/
theorem rowFits_select (c : Ctx) (e : Event) : rowFits c (select c e) = true := by
  by_cases hs : c.sess = .running
  · cases e with
    | byte b => exact rowFits_selectByte_of_running c b hs
    | tick =>
      by_cases ht : c.timer = 0#32
      · simp [select, rowFits, hs, ht]
      · simp [select, rowFits, hs, ht]
    | _ => simp [select, rowFits, hs]
  · have hi := ready_or_done hs
    cases e with
    | byte b => simp [select, selectByte_of_not_running b hs, rowFits, hi]
    | _ => simp [select, rowFits, hs, hi]

/-! ### The word of an event reads back as the event -/

@[simp] theorem decodeEvent_encodeEvent (e : Event) : decodeEvent (encodeEvent e) = .ok e := by
  cases e <;>
    simp [decodeEvent, encodeEvent, Event.kind, Event.operand, decodeE0, decodeEB, decodeES]

@[simp] theorem decode_encodeEvent (c : Ctx) (e : Event) :
    decode c (encodeEvent e) = .ok (select c e) := by
  simp [decode]

theorem encodeEvent_nop : encodeEvent .nop = Machine.nopWord := by decide

end Sys2Proof

namespace Sys2Proof.Machine

/-! ### Events and operations do not look at the queue -/

theorem effect_withInput (i : Instr) (s : State) (ws : List EventWord) :
    effect i { s with input := ws } = { effect i s with input := ws } := by
  cases i <;> rfl

/-- R28: the step function of R4 is total. -/
theorem applyEvent_eq (e : Event) (s : State) :
    applyEvent e s = .next (effect (select s.ctx e) s) :=
  exec_of_fits (rowFits_select s.ctx e)

theorem runEvents_cons (e : Event) (es : List Event) (s : State) :
    runEvents (e :: es) s = runEvents es (effect (select s.ctx e) s) :=
  runEvents_cons_of_next (applyEvent_eq e s)

/-! ### One step -/

theorem step_of_decode {s : State} {w : EventWord} {ws : List EventWord} {i : Instr}
    (hin : s.input = w :: ws) (hdec : decode s.ctx w = .ok i) :
    step s = exec i { s with input := ws } := by
  simp only [step, fetch_cons hin, hdec]

theorem exec_nop (s : State) : exec .nop s = .next s := exec_of_fits rfl

/-- A step in which nothing arrives is NOP (R26). -/
theorem step_of_no_input {s : State} (hin : s.input = []) : step s = exec .nop s := by
  simp only [step, fetch_nil hin, ← encodeEvent_nop, decode_encodeEvent, select]

/-- A step on the word of an event takes the word and applies the operation the event selects. -/
theorem step_of_queued_event {s : State} {e : Event} {ws : List EventWord}
    (hin : s.input = encodeEvent e :: ws) :
    step s = .next { effect (select s.ctx e) s with input := ws } :=
  calc step s
      = applyEvent e { s with input := ws } := step_of_decode hin (decode_encodeEvent s.ctx e)
    _ = .next (effect (select s.ctx e) { s with input := ws }) := applyEvent_eq e _
    _ = .next { effect (select s.ctx e) s with input := ws } := by rw [effect_withInput]

/-! ### The steps on a queue -/

theorem core_run_succ_of_next {s t : State} (h : step s = .next t) (k : Nat) :
    Host.Core.run Sys2Proof.core (k + 1) s = Host.Core.run Sys2Proof.core k t := by
  have h' : Sys2Proof.core.step s = .next t := h
  simp only [Host.Core.run, h']

/-- The steps on a queue of events are the run of the events, from the state without the queue. -/
theorem core_run_queue (es : List Event) (s : State) (hin : s.input = es.map encodeEvent) :
    Host.Core.run Sys2Proof.core es.length s = runEvents es { s with input := [] } := by
  induction es generalizing s with
  | nil =>
    have hs : { s with input := [] } = s := by rw [← List.map_nil, ← hin]
    rw [hs]
    rfl
  | cons e es ih =>
    rw [List.length_cons, core_run_succ_of_next (step_of_queued_event hin), ih _ rfl,
      runEvents_cons]
    exact congrArg (runEvents es) (effect_withInput _ s []).symm

/-- Settles O43: the machine's steps on a queue are the run of its events, and from a state with no
event waiting the queue holds exactly the delivered events. -/
theorem queuedEventsRunInOrder : Obligations.QueuedEventsRunInOrder := by
  intro es s hin
  have hqueue : (s.deliver es).input = es.map encodeEvent := by simp [State.deliver, hin]
  have hrest : { s.deliver es with input := [] } = s := by rw [← hin]; rfl
  rw [core_run_queue es _ hqueue, hrest]

/-- Settles O4: the two cases of the fetch. -/
theorem stepRunsTheDecodedOperation : Obligations.StepRunsTheDecodedOperation :=
  ⟨fun _ _ _ _ hin hdec => step_of_decode hin hdec,
    fun s hin => ⟨step_of_no_input hin, (step_of_no_input hin).trans (exec_nop s)⟩⟩

end Sys2Proof.Machine
end

section
/-! PROOFS. What the 25 operations do, said once (R68, R90 to R141): a selected operation resets,
starts, finishes, ticks, restarts the scan, takes one more byte of the attempt, or does nothing. -/

namespace Sys2Proof

/-! ### The rows of the bytes, with `POS` as a number -/

section
variable {c : Ctx} {b : Byte}

theorem rowFits_synM1 : rowFits c .synM1 = true ↔ c.sess = .running ∧ c.pos.toNat = 0 := by
  simp [rowFits, pos_eq_iff]

theorem rowFits_synSkip :
    rowFits c (.synSkip b) = true ↔ (c.sess = .running ∧ c.pos.toNat = 0) ∧ b ≠ 0x42 := by
  simp [rowFits, pos_eq_iff]

theorem rowFits_synM2 : rowFits c .synM2 = true ↔ c.sess = .running ∧ c.pos.toNat = 1 := by
  simp [rowFits, pos_eq_iff]

theorem rowFits_synRearm :
    rowFits c .synRearm = true ↔ (c.sess = .running ∧ c.pos.toNat = 1) ∧ c.rearm = true := by
  simp [rowFits, pos_eq_iff]

theorem rowFits_lenHi : rowFits c (.lenHi b) = true ↔ c.sess = .running ∧ c.pos.toNat = 2 := by
  simp [rowFits, pos_eq_iff]

theorem rowFits_lenLoOk : rowFits c (.lenLoOk b) = true ↔
    (c.sess = .running ∧ c.pos.toNat = 3) ∧ c.lenHi = 0x00 ∧ b = 0x1C := by
  simp [rowFits, pos_eq_iff]

theorem rowFits_bodyMeas : rowFits c (.bodyMeas b) = true ↔
    (c.sess = .running ∧ 4 ≤ c.pos.toNat) ∧ c.pos.toNat ≤ 27 := by
  simp [rowFits]

theorem rowFits_bodyRsv : rowFits c (.bodyRsv b) = true ↔
    c.sess = .running ∧ (c.pos.toNat = 28 ∨ c.pos.toNat = 29) := by
  simp [rowFits, pos_eq_iff]

theorem rowFits_ckHi : rowFits c (.ckHi b) = true ↔ c.sess = .running ∧ c.pos.toNat = 30 := by
  simp [rowFits, pos_eq_iff]

theorem rowFits_ckLoOk : rowFits c (.ckLoOk b) = true ↔
    (c.sess = .running ∧ c.pos.toNat = 31) ∧ c.acc = be16 c.ckHi b := by
  simp [rowFits, pos_eq_iff]

end

end Sys2Proof

namespace Sys2Proof.Machine

/-! ### Taking one byte of the attempt -/

/-- The operations of the pipeline and those that perform `Finish` are selected in RUNNING only. -/
theorem running_of_fits {c : Ctx} {i : Instr} (hf : rowFits c i = true)
    (hi : isPipeline i = true ∨ isFinish i = true) : c.sess = .running := by
  by_contra hs
  cases i with
  | reset | startRun | startIgn | tickDec | tickIgn | cancelIgn | ioerrIgn | byteIgn | nop =>
    simp [isPipeline, isFinish] at hi
  | _ => simp [rowFits, hs] at hf

/-- `t` is `s` with one more byte of the attempt taken: what SYN.M1, SYN.M2, LEN.HI, LEN.LO.OK,
BODY.MEAS, BODY.RSV and CK.HI have in common. The checksum covers frame offsets 0 to 29 (R14). -/
structure Advances (b : Byte) (s t : State) : Prop where
  pos : t.pos.toNat = s.pos.toNat + 1
  acc : t.acc.toNat =
    if s.pos.toNat < 30 then (s.acc.toNat + b.toNat) % 2 ^ 16 else s.acc.toNat
  lenHi : t.lenHi = if s.pos.toNat = 2 then b else s.lenHi
  buf : ∀ (i : Nat) (h : i < 28), t.buf[i] = if i + 4 = s.pos.toNat then b else s.buf[i]
  mark1 : s.pos.toNat = 0 → b = 0x42
  mark2 : s.pos.toNat = 1 → b = 0x4D
  len : s.pos.toNat = 3 → s.lenHi = 0x00 ∧ b = 0x1C
  frame : t = { s with pos := t.pos, acc := t.acc, lenHi := t.lenHi, buf := t.buf }

theorem Advances.sess_eq {b : Byte} {s t : State} (ha : Advances b s t) : t.sess = s.sess := by
  rw [ha.frame]

theorem Advances.outcome_eq {b : Byte} {s t : State} (ha : Advances b s t) :
    t.outcome = s.outcome := by
  rw [ha.frame]

theorem Advances.meas_eq {b : Byte} {s t : State} (ha : Advances b s t) : t.meas = s.meas := by
  rw [ha.frame]

theorem advances_synM1 {s : State} (h : s.pos.toNat = 0) :
    Advances 0x42 s (effect .synM1 s) where
  pos := by rw [h]; rfl
  acc := by rw [h]; exact addCovered_toNat _ _
  lenHi := by rw [h]; rfl
  buf := fun i _ => (if_neg (by omega)).symm
  mark1 := fun _ => rfl
  mark2 := by omega
  len := by omega
  frame := rfl

/-- SYN.REARM is an AttemptReset followed by the effect of SYN.M1 (R93). -/
theorem advances_synRearm (s : State) : Advances 0x42 s.attemptReset (effect .synRearm s) where
  pos := rfl
  acc := rfl
  lenHi := rfl
  buf := fun _ _ => (if_neg (Nat.succ_ne_zero _)).symm
  mark1 := fun _ => rfl
  mark2 := nofun
  len := nofun
  frame := rfl

theorem advances_synM2 {s : State} (h : s.pos.toNat = 1) :
    Advances 0x4D s (effect .synM2 s) where
  pos := by rw [h]; rfl
  acc := by rw [h]; exact addCovered_toNat _ _
  lenHi := by rw [h]; rfl
  buf := fun i _ => (if_neg (by omega)).symm
  mark1 := by omega
  mark2 := fun _ => rfl
  len := by omega
  frame := rfl

theorem advances_lenHi {s : State} (b : Byte) (h : s.pos.toNat = 2) :
    Advances b s (effect (.lenHi b) s) where
  pos := by rw [h]; rfl
  acc := by rw [h]; exact addCovered_toNat _ _
  lenHi := by rw [h]; rfl
  buf := fun i _ => (if_neg (by omega)).symm
  mark1 := by omega
  mark2 := by omega
  len := by omega
  frame := rfl

theorem advances_lenLoOk {s : State} (h : s.pos.toNat = 3) (hlen : s.lenHi = 0x00) :
    Advances 0x1C s (effect (.lenLoOk 0x1C) s) where
  pos := by rw [h]; rfl
  acc := by rw [h]; exact BitVec.toNat_add _ _
  lenHi := by rw [h]; rfl
  buf := fun i _ => (if_neg (by omega)).symm
  mark1 := by omega
  mark2 := by omega
  len := fun _ => ⟨hlen, rfl⟩
  frame := rfl

/-- BODY.MEAS and BODY.RSV (R110, R111). -/
theorem advances_storeCovered {s : State} (b : Byte) (hl : 4 ≤ s.pos.toNat)
    (hu : s.pos.toNat ≤ 29) : Advances b s (s.storeCovered b) where
  pos := by
    rw [State.storeCovered_pos, BitVec.toNat_add]
    exact Nat.mod_eq_of_lt (show s.pos.toNat + 1 < 32 by omega)
  acc := by
    rw [if_pos (by omega)]
    exact addCovered_toNat _ _
  lenHi := (if_neg (by omega)).symm
  buf := fun i h => by
    have hindex : i = s.pos.toNat - 4 ↔ i + 4 = s.pos.toNat := by omega
    simp only [State.storeCovered_buf, memWrite1_get, bodyIndex_val, hindex]
  mark1 := by omega
  mark2 := by omega
  len := by omega
  frame := rfl

theorem advances_ckHi {s : State} (b : Byte) (h : s.pos.toNat = 30) :
    Advances b s (effect (.ckHi b) s) where
  pos := by rw [h]; rfl
  acc := by rw [h]; rfl
  lenHi := by rw [h]; rfl
  buf := fun i hi => by
    have hindex : i + 4 = s.pos.toNat ↔ i = 26 := by omega
    simp only [hindex]
    exact memWrite1_get s.buf 26 b i hi
  mark1 := by omega
  mark2 := by omega
  len := by omega
  frame := rfl

/-! ### The kinds of effect -/

/-- What an operation does to a state that selects it, by kinds of effect. -/
inductive OpCase (i : Instr) (s : State) : Prop where
  | resets (hi : i = .reset)
      (he : effect i s = { s.clearResult.attemptReset with sess := .ready, timer := 0 })
  | starts (n : Ticks) (hi : i = .startRun n)
      (he : effect i s = { s.clearResult.attemptReset with sess := .running, timer := n })
  | ignores (hi : isPipeline i = false) (hb : s.sess = .running → i.event.byte? = none)
      (he : effect i s = s)
  | skips (b : Byte) (hi : i = .synSkip b) (hp : s.pos.toNat = 0) (he : effect i s = s)
  | ticks (hi : i = .tickDec) (hs : s.sess = .running)
      (he : effect i s = { s with timer := s.timer - 1 })
  | finishes (k : SessionOutcome) (hi : isPipeline i = false) (hk : k ≠ .none)
      (hs : s.sess = .running) (he : effect i s = s.finish k)
  | delivers (b : Byte) (hi : i = .ckLoOk b) (hs : s.sess = .running) (hp : s.pos.toNat = 31)
      (he : effect i s = s.commitMeas.finish .ok)
  | restarts (hs : s.sess = .running) (he : effect i s = s.attemptReset)
  | rearms (hi : i = .synRearm) (hs : s.sess = .running) (hp : s.pos.toNat = 1)
      (ha : Advances 0x42 s.attemptReset (effect i s))
  | advances (b : Byte) (hi : i.event = .byte b) (hs : s.sess = .running)
      (ha : Advances b s (effect i s))

/-- Every selected operation does one of these. -/
theorem opCase_of_fits {i : Instr} {s : State} (hf : rowFits s.ctx i = true) : OpCase i s := by
  cases i with
  | reset => exact .resets rfl rfl
  | startRun n => exact .starts n rfl rfl
  | startIgn | tickIgn | cancelIgn | ioerrIgn | nop => exact .ignores rfl (fun _ => rfl) rfl
  | byteIgn b => exact .ignores rfl (fun hs => by simp [rowFits, hs] at hf) rfl
  | tickDec =>
    obtain ⟨hs, -⟩ : s.sess = .running ∧ s.timer ≠ 0 := by simpa [rowFits] using hf
    exact .ticks rfl hs rfl
  | tickExp => exact .finishes .timeout rfl nofun (running_of_fits hf (.inr rfl)) rfl
  | cancelFin => exact .finishes .cancelled rfl nofun (running_of_fits hf (.inr rfl)) rfl
  | ioerrFin => exact .finishes .ioFailure rfl nofun (running_of_fits hf (.inr rfl)) rfl
  | synM1 =>
    obtain ⟨hs, hp⟩ := rowFits_synM1.1 hf
    exact .advances _ rfl hs (advances_synM1 hp)
  | synSkip b =>
    obtain ⟨⟨-, hp⟩, -⟩ := rowFits_synSkip.1 hf
    exact .skips b rfl hp rfl
  | synM2 =>
    obtain ⟨hs, hp⟩ := rowFits_synM2.1 hf
    exact .advances _ rfl hs (advances_synM2 hp)
  | synRearm =>
    obtain ⟨⟨hs, hp⟩, -⟩ := rowFits_synRearm.1 hf
    exact .rearms rfl hs hp (advances_synRearm s)
  | synDrop | lenLoBad | ckLoBad => exact .restarts (running_of_fits hf (.inl rfl)) rfl
  | lenHi b =>
    obtain ⟨hs, hp⟩ := rowFits_lenHi.1 hf
    exact .advances b rfl hs (advances_lenHi b hp)
  | lenLoOk b =>
    obtain ⟨⟨hs, hp⟩, hlen, rfl⟩ := rowFits_lenLoOk.1 hf
    exact .advances _ rfl hs (advances_lenLoOk hp hlen)
  | bodyMeas b =>
    obtain ⟨⟨hs, hl⟩, hu⟩ := rowFits_bodyMeas.1 hf
    exact .advances b rfl hs (advances_storeCovered b hl (Nat.le_trans hu (by decide)))
  | bodyRsv b =>
    obtain ⟨hs, hp⟩ := rowFits_bodyRsv.1 hf
    rw [State.ctx_pos] at hp
    exact .advances b rfl hs (advances_storeCovered b (by omega) (by omega))
  | ckHi b =>
    obtain ⟨hs, hp⟩ := rowFits_ckHi.1 hf
    exact .advances b rfl hs (advances_ckHi b hp)
  | ckLoOk b =>
    obtain ⟨⟨hs, hp⟩, -⟩ := rowFits_ckLoOk.1 hf
    exact .delivers b rfl hs hp rfl

end Sys2Proof.Machine
end

section
/-! PROOFS. Each event has exactly one operation in each state (10_state.md R28), and the step is
refused on the words that are no event and on nothing else (R67, V1, V5). -/

namespace Sys2Proof

/-! ### One row fits -/

/-- Each range of `POS` selects operations of the byte it was given. -/
theorem event_selectByte_of_running {c : Ctx} (b : Byte) (hs : c.sess = .running) :
    (selectByte c b).event = .byte b := by
  obtain ⟨h0, h1, h2, h3, hMeas, hRsv, h30, h31⟩ := selectByte_by_range c b hs
  have hlt : c.pos.toNat < 32 := c.pos.isLt
  obtain h | h | h | h | ⟨hl, hu⟩ | ⟨hl, hu⟩ | h | h :
      c.pos.toNat = 0 ∨ c.pos.toNat = 1 ∨ c.pos.toNat = 2 ∨ c.pos.toNat = 3 ∨
        (4 ≤ c.pos.toNat ∧ c.pos.toNat ≤ 27) ∨ (28 ≤ c.pos.toNat ∧ c.pos.toNat ≤ 29) ∨
        c.pos.toNat = 30 ∨ c.pos.toNat = 31 := by omega
  · rw [h0 h]
    split_ifs with hb
    · exact congrArg Event.byte hb.symm
    · rfl
  · rw [h1 h]
    split_ifs with hb hr
    · exact congrArg Event.byte hb.symm
    · exact congrArg Event.byte hr.1.symm
    · rfl
  · rw [h2 h]; rfl
  · rw [h3 h]; split_ifs <;> rfl
  · rw [hMeas hl hu]; rfl
  · rw [hRsv hl hu]; rfl
  · rw [h30 h]; rfl
  · rw [h31 h]; split_ifs <;> rfl

/-- The operation selected is one of the event's own (the "event" column of R68). -/
theorem event_select (c : Ctx) (e : Event) : (select c e).event = e := by
  cases e with
  | byte b =>
    by_cases hs : c.sess = .running
    · exact event_selectByte_of_running b hs
    · rw [select, selectByte_of_not_running b hs]; rfl
  | reset | nop => rfl
  | start | ioerr | tick | cancel => simp only [select]; split_ifs <;> rfl

/-- A row that fits is the one the ordered map selects: the rows do not overlap. -/
theorem select_event_of_fits {c : Ctx} {i : Instr} (hf : rowFits c i = true) :
    select c i.event = i := by
  cases i with
  | reset | nop => rfl
  | startRun | tickIgn | cancelIgn | ioerrIgn | byteIgn =>
    have hs : c.sess ≠ .running := fun hs => by simp [rowFits, hs] at hf
    simp [select, selectByte, Instr.event, hs]
  | startIgn | tickDec | tickExp | cancelFin | ioerrFin =>
    simp [rowFits] at hf
    simp [select, Instr.event, hf]
  | synM1 | synSkip | synM2 | synRearm | lenHi | lenLoOk | ckHi | ckLoOk | ckLoBad =>
    simp [rowFits] at hf
    simp [select, selectByte, Instr.event, be16_eq_frameLen, Config.mark1, Config.mark2, hf]
  | synDrop b =>
    simp [rowFits, ← imp_iff_not_or] at hf
    obtain ⟨⟨⟨hs, hp⟩, hb⟩, hr⟩ := hf
    simpa [select, selectByte, Instr.event, Config.mark1, Config.mark2, hs, hp, hb] using hr
  | lenLoBad b =>
    simp [rowFits, ← imp_iff_not_or] at hf
    obtain ⟨⟨hs, hp⟩, hlen⟩ := hf
    simpa [select, selectByte, Instr.event, be16_eq_frameLen, hs, hp] using hlen
  | bodyMeas b =>
    obtain ⟨⟨hs, hl⟩, hu⟩ := rowFits_bodyMeas.1 hf
    obtain ⟨-, -, -, -, hMeas, -⟩ := selectByte_by_range c b hs
    exact hMeas hl hu
  | bodyRsv b =>
    obtain ⟨hs, hp⟩ := rowFits_bodyRsv.1 hf
    obtain ⟨-, -, -, -, -, hRsv, -⟩ := selectByte_by_range c b hs
    exact hRsv (by omega) (by omega)

/-- Settles O10: `select` gives the row that fits, and every row that fits is that one. -/
theorem exactlyOneOperationPerEventAndState : Obligations.ExactlyOneOperationPerEventAndState := by
  intro c e
  refine ⟨select c e, ⟨event_select c e, rowFits_select c e⟩, fun j hj hf => ?_⟩
  rw [← hj, select_event_of_fits hf]

/-! ### Malformed words -/

theorem decodeE0_error_iff (w : EventWord) (e : Event) :
    (∃ r, decodeE0 w e = .error r) ↔ w.toNat % 2 ^ 32 ≠ 0 := by
  have hzero : operandField w = 0 ↔ w.toNat % 2 ^ 32 = 0 := by
    rw [← BitVec.toNat_inj, operandField_toNat]; rfl
  rw [ne_eq, ← hzero, decodeE0]
  split_ifs with h
  · exact ⟨nofun, absurd h⟩
  · exact ⟨fun _ => h, fun _ => ⟨_, rfl⟩⟩

theorem decodeEB_error_iff (w : EventWord) :
    (∃ r, decodeEB w = .error r) ↔ 256 ≤ w.toNat % 2 ^ 32 := by
  have hhigh : (operandField w).extractLsb' 8 24 = 0 ↔ w.toNat % 2 ^ 32 < 256 := by
    rw [← BitVec.toNat_inj, BitVec.extractLsb'_toNat, operandField_toNat, Nat.shiftRight_eq_div_pow]
    change _ = 0 ↔ _
    omega
  rw [← not_lt, ← hhigh, decodeEB]
  split_ifs with h
  · exact ⟨nofun, absurd h⟩
  · exact ⟨fun _ => h, fun _ => ⟨_, rfl⟩⟩

namespace Machine

/-- A word is no event exactly when it is malformed (R67, V1, V5). -/
theorem decodeEvent_error_iff (w : EventWord) :
    (∃ r, decodeEvent w = .error r) ↔ MalformedWord w := by
  unfold decodeEvent MalformedWord
  rw [← kindField_toNat]
  cases hk : EventKind.ofCode (kindField w) with
  | none =>
    rw [(ofCode_eq_none _).1 hk]
    simp
  | some k =>
    rw [← code_of_ofCode _ k hk]
    cases k <;> simp [decodeE0_error_iff, decodeEB_error_iff, EventKind.code, decodeES]

theorem decodeEvent_ok_of_not_malformed {w : EventWord} (h : ¬ MalformedWord w) :
    ∃ e, decodeEvent w = .ok e := by
  cases hd : decodeEvent w with
  | ok e => exact ⟨e, rfl⟩
  | error r => exact absurd ((decodeEvent_error_iff w).1 ⟨r, hd⟩) h

/-! ### The step -/

theorem step_of_decode_error {s : State} {w : EventWord} {ws : List EventWord} {r : DecodeError}
    (hin : s.input = w :: ws) (hdec : decodeEvent w = .error r) :
    step s = .refused (.malformedEvent r) := by
  simp only [step, fetch_cons hin, decode, hdec]

theorem step_of_decode_event {s : State} {w : EventWord} {ws : List EventWord} {e : Event}
    (hin : s.input = w :: ws) (hdec : decodeEvent w = .ok e) :
    step s = applyEvent e { s with input := ws } :=
  step_of_decode hin (by simp only [decode, hdec]; rfl)

/-- Settles O5: the two ways a word decodes, and the step with no word. -/
theorem stepIsTotalOnWellFormedEvents : Obligations.StepIsTotalOnWellFormedEvents := by
  refine ⟨fun s w ws hin hw => ?_, fun s hw => ?_⟩
  · obtain ⟨r, hr⟩ := (decodeEvent_error_iff w).2 hw
    exact ⟨r, step_of_decode_error hin hr⟩
  · cases hin : s.input with
    | nil => exact ⟨s, (step_of_no_input hin).trans (exec_nop s)⟩
    | cons w ws =>
      obtain ⟨e, he⟩ := decodeEvent_ok_of_not_malformed (hw w ws hin)
      exact ⟨_, (step_of_decode_event hin he).trans (applyEvent_eq e _)⟩

end Machine

end Sys2Proof
end

section
/-! PROOFS. The invariants of R21 hold at reset and are kept by every step (10_state.md section 6), and
the bounds of `ACC` they give (R14, R122). -/

namespace Sys2Proof.Machine

/-! ### Steps -/

/-- A step that answers a next state applied a selected operation and took at most one word. -/
theorem step_next {s t : State} (h : step s = .next t) :
    ∃ (i : Instr) (ws : List EventWord),
      rowFits s.ctx i = true ∧ t = { effect i s with input := ws } := by
  cases hin : s.input with
  | nil =>
    rw [step_of_no_input hin] at h
    obtain ⟨hf, rfl⟩ := exec_next h
    exact ⟨.nop, _, hf, rfl⟩
  | cons w ws =>
    cases hdec : decode s.ctx w with
    | ok i =>
      rw [step_of_decode hin hdec] at h
      obtain ⟨hf, rfl⟩ := exec_next h
      exact ⟨i, ws, hf, effect_withInput i s ws⟩
    | error r => simp [step, fetch_cons hin, hdec] at h

/-! ### The invariants, by kinds of effect -/

/-- Where no byte of an attempt is held, the rest of the invariants speaks of the session only. -/
theorem inv_of_empty_attempt {t : State} (hpos : t.pos = 0) (hacc : t.acc = 0) (hlen : t.lenHi = 0)
    (hbuf : t.buf = zeroBuf) (htimer : t.sess ≠ .running → t.timer = 0)
    (hout : t.outcome = .none ↔ t.sess ≠ .done) (hmeas : t.outcome ≠ .ok → t.meas = zeroMeas) :
    Inv t := by
  have hnone (h : t.sess ≠ .done) : t.outcome = .none ∧ t.meas = zeroMeas :=
    ⟨hout.2 h, hmeas (by rw [hout.2 h]; nofun)⟩
  exact {
    idle := fun h => ⟨hpos, hacc, hlen, hbuf, htimer h⟩
    running := fun h => hnone (by rw [h]; nofun)
    ready := fun h => hnone (by rw [h]; nofun)
    done := iff_not_comm.1 hout
    meas := hmeas
    acc := by simp [coveredSum, hpos, hacc]
    lenHi := fun _ => hlen
    buf := fun i h _ => by rw [hbuf, zeroBuf_get] }

theorem inv_attemptReset {s : State} (hi : Inv s) (hs : s.sess = .running) : Inv s.attemptReset :=
  inv_of_empty_attempt rfl rfl rfl rfl (absurd hs) (iff_not_comm.1 hi.done) hi.meas

theorem inv_finish {s : State} {k : SessionOutcome} (hk : k ≠ .none)
    (hmeas : k ≠ .ok → s.meas = zeroMeas) : Inv (s.finish k) :=
  inv_of_empty_attempt rfl rfl rfl rfl (fun _ => rfl)
    ⟨fun h => absurd h hk, fun h => absurd rfl h⟩ hmeas

/-- I1 is the only invariant that names `TIMER`. -/
theorem inv_with_timer {s : State} (hi : Inv s) (hs : s.sess = .running) (n : Ticks) :
    Inv { s with timer := n } :=
  { hi with idle := absurd hs }

/-- No invariant names the queue. -/
theorem inv_with_input {s : State} (hi : Inv s) (ws : List EventWord) :
    Inv { s with input := ws } :=
  { hi with }

/-- I7 does not overflow: `ACC` is at most 26 body bytes above `0xAB` (R14). -/
theorem coveredSum_le (s : State) : coveredSum s ≤ 6801 := by
  have hlen : s.lenHi.toNat < 256 := s.lenHi.isLt
  have hbuf := bufSum_le s.buf (min (s.pos.toNat - 4) 26) (by omega)
  unfold coveredSum
  split_ifs <;> omega

theorem coveredSum_of_body {s : State} (h : 4 ≤ s.pos.toNat) :
    coveredSum s = 0xAB + bufSum s.buf (min (s.pos.toNat - 4) 26) := by
  unfold coveredSum
  split_ifs <;> omega

/-- The body bytes below `POS` stay, and the byte taken is the next one (I10). -/
theorem bufSum_of_advances {b : Byte} {s t : State} (ha : Advances b s t) {n : Nat}
    (hn : n + 4 ≤ s.pos.toNat) : bufSum t.buf n = bufSum s.buf n := by
  have hpos : s.pos.toNat < 32 := s.pos.isLt
  exact bufSum_congr _ _ n (by omega) fun i hi hin => by rw [ha.buf i hi, if_neg (by omega)]

/-- The byte taken adds to the exact sum of I7 what it adds to `ACC`. -/
theorem coveredSum_of_advances {b : Byte} {s t : State} (ha : Advances b s t) :
    coveredSum t = if s.pos.toNat < 30 then coveredSum s + b.toNat else coveredSum s := by
  have hpos := ha.pos
  have hlt : t.pos.toNat < 32 := t.pos.isLt
  obtain h | h | h | h | ⟨hl, hu⟩ | h : s.pos.toNat = 0 ∨ s.pos.toNat = 1 ∨ s.pos.toNat = 2 ∨
      s.pos.toNat = 3 ∨ (4 ≤ s.pos.toNat ∧ s.pos.toNat < 30) ∨ s.pos.toNat = 30 := by omega
  · simp [coveredSum, hpos, h, ha.mark1 h]
  · simp [coveredSum, hpos, h, ha.mark2 h]
  · simp [coveredSum, hpos, h, ha.lenHi]
  · obtain ⟨hlen, rfl⟩ := ha.len h
    simp [coveredSum, hpos, h, hlen]
  · have hnext : t.buf[s.pos.toNat - 4] = b := (ha.buf _ _).trans (if_pos (by omega))
    rw [if_pos hu, coveredSum_of_body (s := t) (by omega), coveredSum_of_body hl,
      show min (t.pos.toNat - 4) 26 = s.pos.toNat - 4 + 1 by omega,
      show min (s.pos.toNat - 4) 26 = s.pos.toNat - 4 by omega,
      bufSum_succ _ _ (by omega), bufSum_of_advances ha (by omega), hnext, Nat.add_assoc]
  · rw [if_neg (by omega), coveredSum_of_body (s := t) (by omega),
      coveredSum_of_body (s := s) (by omega), show min (t.pos.toNat - 4) 26 = 26 by omega,
      show min (s.pos.toNat - 4) 26 = 26 by omega,
      bufSum_of_advances ha (by omega)]

theorem inv_of_advances {b : Byte} {s t : State} (hi : Inv s) (hs : s.sess = .running)
    (ha : Advances b s t) : Inv t := by
  have hrun : t.sess = .running := ha.sess_eq.trans hs
  exact {
    idle := absurd hrun
    running := fun _ => by rw [ha.outcome_eq, ha.meas_eq]; exact hi.running hs
    ready := fun h => by rw [hrun] at h; cases h
    done := by rw [ha.sess_eq, ha.outcome_eq]; exact hi.done
    meas := by rw [ha.outcome_eq, ha.meas_eq]; exact hi.meas
    acc := by
      have hle := coveredSum_le s
      have hb : b.toNat < 256 := b.isLt
      rw [ha.acc, coveredSum_of_advances ha, hi.acc]
      split_ifs
      · exact Nat.mod_eq_of_lt (by omega)
      · rfl
    lenHi := fun h => by
      rw [ha.pos] at h
      rw [ha.lenHi, if_neg (by omega)]
      by_cases h3 : s.pos.toNat = 3
      · exact (ha.len h3).1
      · exact hi.lenHi h3
    buf := fun i h hp => by
      rw [ha.pos] at hp
      rw [ha.buf i h, if_neg (by omega)]
      exact hi.buf i h (by omega) }

/-- Every operation keeps the invariants in the states that select it. -/
theorem inv_effect {s : State} {i : Instr} (hi : Inv s) (hf : rowFits s.ctx i = true) :
    Inv (effect i s) := by
  cases opCase_of_fits hf with
  | resets _ he | starts _ _ he =>
    rw [he]
    exact inv_of_empty_attempt rfl rfl rfl rfl (by simp) (by simp) (fun _ => rfl)
  | ignores _ _ he | skips _ _ _ he => rwa [he]
  | ticks _ hs he => rw [he]; exact inv_with_timer hi hs _
  | finishes k _ hk hs he => rw [he]; exact inv_finish hk fun _ => (hi.running hs).2
  | delivers _ _ _ _ he => rw [he]; exact inv_finish nofun (absurd rfl)
  | restarts hs he => rw [he]; exact inv_attemptReset hi hs
  | rearms _ hs _ ha => exact inv_of_advances (inv_attemptReset hi hs) hs ha
  | advances _ _ hs ha => exact inv_of_advances hi hs ha

/-- Settles O3: the step is the effect of a selected operation, and the queue is in no invariant. -/
theorem everyStepKeepsTheInvariants : Obligations.EveryStepKeepsTheInvariants := by
  intro s t hi h
  obtain ⟨i, ws, hf, rfl⟩ := step_next h
  exact inv_with_input (inv_effect hi hf) ws

/-- Settles O2: no byte is held, and the session has no outcome. -/
theorem resetStateMeetsTheInvariants : Obligations.ResetStateMeetsTheInvariants :=
  inv_of_empty_attempt rfl rfl rfl rfl (fun _ => rfl) (by decide) (fun _ => rfl)

/-- Settles O40: I7, with the body sum at most 255 for each of the 26 covered bytes. -/
theorem accumulatorNeverOverflows : Obligations.AccumulatorNeverOverflows := by
  intro s hi
  have hlen : s.lenHi.toNat < 256 := s.lenHi.isLt
  rw [hi.acc]
  refine ⟨coveredSum_le s, fun hp => ?_, fun hp => ?_⟩
  · unfold coveredSum
    split_ifs <;> omega
  · simp [coveredSum, hp]

end Sys2Proof.Machine
end

section
/-! PROOFS. Which operations change `SESS`, `OUTCOME` and `POS`, and to what (R11, R12, R13, R19, R23),
and the reset values (R25). -/

namespace Sys2Proof.Machine

/-- Settles O1: RESET is selected in every state, and its effect is the reset state. -/
theorem resetStateHoldsTheResetValues : Obligations.ResetStateHoldsTheResetValues :=
  ⟨⟨rfl, rfl, rfl, rfl, rfl, zeroBuf_get, zeroMeas_get, rfl⟩, fun _ => exec_of_fits rfl⟩

/-! ### The session status -/

/-- The writers of `SESS`: RESET, START.RUN and the four operations that perform `Finish` (R23). -/
theorem effect_sess_cases (i : Instr) (s : State) :
    (i = .reset ∧ (effect i s).sess = .ready) ∨
    ((∃ n, i = .startRun n) ∧ (effect i s).sess = .running) ∨
    (isFinish i = true ∧ (effect i s).sess = .done) ∨
    ((i ≠ .reset ∧ (∀ n, i ≠ .startRun n) ∧ isFinish i = false) ∧
      (effect i s).sess = s.sess) := by
  cases i with
  | reset => exact .inl ⟨rfl, rfl⟩
  | startRun n => exact .inr (.inl ⟨⟨n, rfl⟩, rfl⟩)
  | tickExp | cancelFin | ioerrFin | ckLoOk => exact .inr (.inr (.inl ⟨rfl, rfl⟩))
  | _ => exact .inr (.inr (.inr ⟨⟨nofun, nofun, rfl⟩, rfl⟩))

/-- START.RUN is selected outside a session only (R131). -/
theorem not_running_of_fits_startRun {c : Ctx} {n : Ticks} (hf : rowFits c (.startRun n) = true) :
    c.sess ≠ .running := fun hs => by
  simp [rowFits, hs] at hf

/-- Outside a session BYTE, IOERR, TICK and CANCEL select an operation that ignores them (R11). -/
theorem applyEvent_of_not_running {s : State} {e : Event} (hs : s.sess ≠ .running)
    (he : notHost e = true) : applyEvent e s = .next s := by
  rw [applyEvent_eq]
  cases e with
  | byte b => rw [select, selectByte_of_not_running b hs]; rfl
  | ioerr | tick | cancel => rw [select, State.ctx_sess, if_neg hs]; rfl
  | nop => rfl
  | reset | start => cases he

/-- Settles O34: the third clause by the writers of `SESS`. -/
theorem sessionStatusTransitions : Obligations.SessionStatusTransitions := by
  refine ⟨⟨rfl, rfl, rfl, by intro x; cases x <;> decide⟩, fun s e hs he => ?_,
    fun i s t h hne => ?_⟩
  · refine applyEvent_of_not_running hs ?_
    obtain ⟨b, rfl⟩ | rfl | rfl | rfl := he <;> rfl
  · obtain ⟨hf, rfl⟩ := exec_next h
    obtain ⟨hi, hsess⟩ | ⟨hi, hsess⟩ | ⟨hi, hsess⟩ | ⟨-, hsess⟩ := effect_sess_cases i s
    · rw [hsess]; exact ⟨nofun, nofun, fun _ => hi⟩
    · rw [hsess]; exact ⟨fun _ => hi, nofun, nofun⟩
    · rw [hsess]; exact ⟨nofun, fun _ => ⟨running_of_fits hf (.inr hi), hi⟩, nofun⟩
    · exact absurd hsess hne

/-- Settles O39: `SRC_OPEN` follows `SESS`, so by the writers of `SESS`. -/
theorem sourceIsOpenExactlyWhileRunning : Obligations.SourceIsOpenExactlyWhileRunning := by
  refine ⟨fun s => ⟨beq_iff_eq, beq_iff_eq, beq_iff_eq, beq_iff_eq⟩, fun i s t h => ?_⟩
  obtain ⟨hf, rfl⟩ := exec_next h
  simp only [opensSource, closesSource, State.srcOpen, beq_iff_eq, beq_eq_false_iff_ne]
  obtain ⟨rfl, hsess⟩ | ⟨⟨n, rfl⟩, hsess⟩ | ⟨hi, hsess⟩ | ⟨hi, hsess⟩ := effect_sess_cases i s
  · simp [hsess, isFinish]
  · have hs : s.sess ≠ .running := not_running_of_fits_startRun hf
    simp [hsess, isFinish, hs]
  · have hs : s.sess = .running := running_of_fits hf (.inr hi)
    have hn (n : Ticks) : i ≠ .startRun n := by rintro rfl; cases hi
    simp [hsess, hi, hs, hn]
  · obtain ⟨hr, hn, hfin⟩ := hi
    simp [hsess, hr, hn, hfin]

/-! ### The outcome -/

/-- The writers of `OUTCOME`, and what each writes (R12). -/
theorem effect_outcome_cases (i : Instr) (s : State) :
    (isHostStart i = true ∧ (effect i s).outcome = .none) ∨
    ((∃ b, i = .ckLoOk b) ∧ (effect i s).outcome = .ok) ∨
    (i = .ioerrFin ∧ (effect i s).outcome = .ioFailure) ∨
    (i = .tickExp ∧ (effect i s).outcome = .timeout) ∨
    (i = .cancelFin ∧ (effect i s).outcome = .cancelled) ∨
    (effect i s).outcome = s.outcome := by
  cases i with
  | reset | startRun => exact .inl ⟨rfl, rfl⟩
  | ckLoOk b => exact .inr (.inl ⟨⟨b, rfl⟩, rfl⟩)
  | ioerrFin => exact .inr (.inr (.inl ⟨rfl, rfl⟩))
  | tickExp => exact .inr (.inr (.inr (.inl ⟨rfl, rfl⟩)))
  | cancelFin => exact .inr (.inr (.inr (.inr (.inl ⟨rfl, rfl⟩))))
  | _ => exact .inr (.inr (.inr (.inr (.inr rfl))))

/-- Settles O35: by the writers of `OUTCOME`. -/
theorem outcomeCodesAndCauses : Obligations.OutcomeCodesAndCauses := by
  refine ⟨⟨rfl, rfl, rfl, rfl, rfl, by intro x; cases x <;> decide⟩, fun i s t h hne => ?_⟩
  obtain ⟨-, rfl⟩ := exec_next h
  obtain ⟨hi, ho⟩ | ⟨hi, ho⟩ | ⟨hi, ho⟩ | ⟨hi, ho⟩ | ⟨hi, ho⟩ | ho := effect_outcome_cases i s
  · rw [ho]; exact ⟨fun _ => hi, nofun, nofun, nofun, nofun⟩
  · rw [ho]; exact ⟨nofun, fun _ => hi, nofun, nofun, nofun⟩
  · rw [ho]; exact ⟨nofun, nofun, fun _ => hi, nofun, nofun⟩
  · rw [ho]; exact ⟨nofun, nofun, nofun, fun _ => hi, nofun⟩
  · rw [ho]; exact ⟨nofun, nofun, nofun, nofun, fun _ => hi⟩
  · exact absurd ho hne

/-! ### The position -/

/-- Settles O36: by kinds of effect. -/
theorem positionAdvancesStaysOrReturns : Obligations.PositionAdvancesStaysOrReturns := by
  intro i s t hi h
  obtain ⟨hf, rfl⟩ := exec_next h
  cases opCase_of_fits hf with
  | resets he | starts _ he | ticks he => subst he; cases hi
  | finishes _ hn | ignores hn => rw [hn] at hi; cases hi
  | skips b hskip _ he => exact .inr (.inl ⟨by rw [he], .inl ⟨b, hskip⟩⟩)
  | delivers _ _ _ _ he | restarts _ he => exact .inr (.inr (by rw [he]; rfl))
  | rearms hr _ hp ha =>
    have hpos : (effect i s).pos.toNat = s.pos.toNat := ha.pos.trans hp.symm
    exact .inr (.inl ⟨BitVec.eq_of_toNat_eq hpos, .inr hr⟩)
  | advances _ _ _ ha => exact .inl ha.pos

end Sys2Proof.Machine
end

section
/-! PROOFS. While a session runs, the state holds exactly the bytes of the current attempt, and these
are the last bytes consumed (10_state.md section 6, I7 to I10). -/

namespace Sys2Proof.Machine

/-- The bytes `a` are the attempt that `s` holds (I7 to I10). -/
structure HoldsAttempt (a : List Byte) (s : State) : Prop where
  length : a.length = s.pos.toNat
  acc : s.acc.toNat = ((a.take 30).map BitVec.toNat).sum
  mark1 : 1 ≤ s.pos.toNat → a[0]? = some 0x42
  mark2 : 2 ≤ s.pos.toNat → a[1]? = some 0x4D
  lenHi : s.pos.toNat = 3 → a[2]? = some s.lenHi
  len : 4 ≤ s.pos.toNat → a[2]? = some 0x00 ∧ a[3]? = some 0x1C
  body : ∀ (i : Nat) (h : i < 28), i + 4 < s.pos.toNat → a[i + 4]? = some s.buf[i]
  rest : ∀ (i : Nat) (h : i < 28), s.pos.toNat ≤ i + 4 → s.buf[i] = 0

/-- With no byte taken, the accumulator and the buffer are zero. -/
theorem holdsAttempt_nil {s : State} (hpos : s.pos = 0) (hacc : s.acc = 0)
    (hbuf : ∀ (i : Nat) (h : i < 28), s.buf[i] = 0) : HoldsAttempt [] s := by
  have h0 : s.pos.toNat = 0 := by rw [hpos]; rfl
  exact {
    length := h0.symm
    acc := by rw [hacc]; rfl
    mark1 := by omega
    mark2 := by omega
    lenHi := by omega
    len := by omega
    body := by omega
    rest := fun i h _ => hbuf i h }

theorem holdsAttempt_attemptReset (s : State) : HoldsAttempt [] s.attemptReset :=
  holdsAttempt_nil rfl rfl zeroBuf_get

/-- The attempt does not depend on the deadline. -/
theorem holdsAttempt_with_timer {a : List Byte} {s : State} (ha : HoldsAttempt a s) (n : Ticks) :
    HoldsAttempt a { s with timer := n } :=
  { ha with }

theorem sum_toNat_le (a : List Byte) : (a.map BitVec.toNat).sum ≤ 255 * a.length := by
  induction a with
  | nil => simp
  | cons b a ih =>
    have hb : b.toNat < 256 := b.isLt
    simp only [List.map_cons, List.sum_cons, List.length_cons]
    omega

/-- The byte taken is the next byte of the attempt. -/
theorem holdsAttempt_of_advances {a : List Byte} {b : Byte} {s t : State} (ha : HoldsAttempt a s)
    (hadv : Advances b s t) : HoldsAttempt (a ++ [b]) t := by
  have hpos := hadv.pos
  have hlen := ha.length
  have hlt : t.pos.toNat < 32 := t.pos.isLt
  have hold {j : Nat} (hj : j < s.pos.toNat) : (a ++ [b])[j]? = a[j]? :=
    List.getElem?_append_left (by omega)
  have hnew : (a ++ [b])[s.pos.toNat]? = some b := by rw [← hlen]; exact List.getElem?_concat_length
  exact {
    length := by simp [hlen, hpos]
    acc := by
      rw [hadv.acc, ha.acc]
      split_ifs with h30
      · have hle := sum_toNat_le a
        have hb : b.toNat < 256 := b.isLt
        have hlen' : (a ++ [b]).length ≤ 30 := by simpa using (by omega : a.length + 1 ≤ 30)
        rw [List.take_of_length_le (by omega), List.take_of_length_le hlen',
          Nat.mod_eq_of_lt (by omega)]
        simp
      · rw [List.take_append_of_le_length (by omega)]
    mark1 := fun h => by
      obtain h0 | h0 : s.pos.toNat = 0 ∨ 1 ≤ s.pos.toNat := by omega
      · rw [← h0, hnew, hadv.mark1 h0]
      · rw [hold (by omega), ha.mark1 h0]
    mark2 := fun h => by
      obtain h1 | h1 : s.pos.toNat = 1 ∨ 2 ≤ s.pos.toNat := by omega
      · rw [← h1, hnew, hadv.mark2 h1]
      · rw [hold (by omega), ha.mark2 h1]
    lenHi := fun h => by
      have h2 : s.pos.toNat = 2 := by omega
      rw [← h2, hnew, hadv.lenHi, if_pos h2]
    len := fun h => by
      obtain h3 | h3 : s.pos.toNat = 3 ∨ 4 ≤ s.pos.toNat := by omega
      · obtain ⟨hhi, rfl⟩ := hadv.len h3
        rw [hold (by omega), ha.lenHi h3, hhi, ← h3, hnew]
        exact ⟨rfl, rfl⟩
      · rw [hold (by omega), hold (by omega)]
        exact ha.len h3
    body := fun i hi h => by
      rw [hadv.buf i hi]
      split_ifs with hn
      · rw [hn, hnew]
      · rw [hold (by omega), ha.body i hi (by omega)]
    rest := fun i hi h => by
      rw [hadv.buf i hi, if_neg (by omega), ha.rest i hi (by omega)] }

/-- An event without a byte adds nothing to the bytes consumed. -/
theorem suffix_append_bytesIn {a : List Byte} {e : Event} (he : e.byte? = none) :
    a <:+ a ++ bytesIn [e] := by
  simp [bytesIn, he]

/-- A selected operation that leaves the session running leaves an attempt that ends in the byte it
took, if any. -/
theorem holdsAttempt_effect {a : List Byte} {s : State} {i : Instr} (ha : HoldsAttempt a s)
    (hf : rowFits s.ctx i = true) (hs : s.sess = .running) (hhost : notHost i.event = true)
    (hrun : (effect i s).sess = .running) :
    ∃ a', a' <:+ a ++ bytesIn [i.event] ∧ HoldsAttempt a' (effect i s) := by
  cases opCase_of_fits hf with
  | resets hi | starts _ hi => subst hi; cases hhost
  | ignores _ hb he => rw [he]; exact ⟨a, suffix_append_bytesIn (hb hs), ha⟩
  | skips b _ hp he =>
    have hnil : a = [] := List.length_eq_zero_iff.1 (ha.length.trans hp)
    rw [he]
    exact ⟨a, by rw [hnil]; exact List.nil_suffix, ha⟩
  | ticks hi _ he =>
    rw [he, hi]
    exact ⟨a, suffix_append_bytesIn rfl, holdsAttempt_with_timer ha _⟩
  | finishes _ _ _ _ he | delivers _ _ _ _ he => rw [he] at hrun; cases hrun
  | restarts _ he => rw [he]; exact ⟨[], List.nil_suffix, holdsAttempt_attemptReset s⟩
  | rearms hi _ _ hadv =>
    subst hi
    exact ⟨[0x42], List.suffix_append _ _,
      holdsAttempt_of_advances (holdsAttempt_attemptReset s) hadv⟩
  | advances b hi _ hadv =>
    rw [hi]
    exact ⟨a ++ [b], List.suffix_rfl, holdsAttempt_of_advances ha hadv⟩

/-- Outside a session only the host's events have an effect. -/
theorem runEvents_of_not_running {s : State} {es : List Event} (hs : s.sess ≠ .running)
    (hes : es.all notHost = true) : runEvents es s = .next s := by
  induction es with
  | nil => rfl
  | cons e es ih =>
    obtain ⟨he, hrest⟩ : notHost e = true ∧ es.all notHost = true := by simpa using hes
    rw [runEvents_cons_of_next (applyEvent_of_not_running hs he), ih hrest]

/-- A run that leaves the session running leaves an attempt that is the end of the bytes consumed. -/
theorem holdsAttempt_runEvents {a : List Byte} {s t : State} {es : List Event}
    (ha : HoldsAttempt a s) (hs : s.sess = .running) (hes : es.all notHost = true)
    (h : runEvents es s = .next t) (ht : t.sess = .running) :
    ∃ a', a' <:+ a ++ bytesIn es ∧ HoldsAttempt a' t := by
  induction es generalizing a s with
  | nil => cases h; exact ⟨a, by simp [bytesIn], ha⟩
  | cons e es ih =>
    obtain ⟨he, hrest⟩ : notHost e = true ∧ es.all notHost = true := by simpa using hes
    rw [runEvents_cons] at h
    by_cases hrun : (effect (select s.ctx e) s).sess = .running
    · obtain ⟨a₁, hsuf₁, ha₁⟩ := holdsAttempt_effect ha (rowFits_select s.ctx e) hs
        (by rwa [event_select]) hrun
      obtain ⟨a₂, hsuf₂, ha₂⟩ := ih ha₁ hrun hrest h
      rw [event_select] at hsuf₁
      have hbytes : bytesIn (e :: es) = bytesIn [e] ++ bytesIn es :=
        List.filterMap_append (l := [e])
      rw [hbytes, ← List.append_assoc]
      exact ⟨a₂, hsuf₂.trans ((List.suffix_append_inj_of_length_eq rfl).2 ⟨hsuf₁, rfl⟩), ha₂⟩
    · rw [runEvents_of_not_running hrun hrest] at h
      cases h
      exact absurd ht hrun

/-- Settles O52: from the empty attempt, over the run. -/
theorem attemptHoldsExactlyItsBytes : Obligations.AttemptHoldsExactlyItsBytes := by
  intro s t es hi hs hpos hes h ht
  have hp0 : s.pos.toNat = 0 := by rw [hpos]; rfl
  have hacc : s.acc = 0 := BitVec.eq_of_toNat_eq (by rw [hi.acc, coveredSum, if_pos hp0]; rfl)
  have hnil : HoldsAttempt [] s := holdsAttempt_nil hpos hacc fun i h => hi.buf i h (by omega)
  obtain ⟨a, ⟨before, hbefore⟩, ha⟩ := holdsAttempt_runEvents hnil hs hes h ht
  exact ⟨before, a, hbefore.symm, ha.length, ha.acc, ha.mark1, ha.mark2, ha.lenHi, ha.len, ha.body,
    ha.rest⟩

end Sys2Proof.Machine
end

section
/-! PROOFS. Bytes of `BUF` that the attempt has not reached never show (10_state.md R16, D8). -/

namespace Sys2Proof.Machine

/-- Only the two checksum rows look at `BUF[26]`, and only at `POS = 31` (R120, R121). -/
theorem rowFits_with_ckHi {c : Ctx} {i : Instr} (x : Byte) (hp : c.pos ≠ 31) :
    rowFits { c with ckHi := x } i = rowFits c i := by
  have hne : (c.pos == 31) = false := beq_false_of_ne hp
  cases i with
  | ckLoOk | ckLoBad => simp only [rowFits, hne, Bool.and_false, Bool.false_and]
  | _ => rfl

theorem fits_of_sameButStaleBuf {s t : State} {i : Instr} (h : sameButStaleBuf s t)
    (hf : rowFits s.ctx i = true) : rowFits t.ctx i = true := by
  obtain ⟨ht, hbuf⟩ := h
  have hctx : t.ctx = { s.ctx with ckHi := t.buf[26] } := by rw [ht]; rfl
  rw [hctx]
  by_cases hp : s.pos = 31
  · rw [← hbuf 26 (by omega) (by rw [hp]; decide)]
    exact hf
  · rw [rowFits_with_ckHi _ hp, hf]

/-- Stale bytes do not change the operation an event selects. -/
theorem select_of_sameButStaleBuf {s t : State} (h : sameButStaleBuf s t) (e : Event) :
    select t.ctx e = select s.ctx e := by
  have hsel := select_event_of_fits (fits_of_sameButStaleBuf h (rowFits_select s.ctx e))
  rwa [event_select] at hsel

/-- Up to `POS = 4` no body byte has been reached. -/
theorem sameButStaleBuf_of_pos_le {s t : State} (ht : t = { s with buf := t.buf })
    (hp : s.pos.toNat ≤ 4) : sameButStaleBuf s t :=
  ⟨ht, fun i _ h => absurd h (by omega)⟩

/-- The same byte stored at the first place not reached reaches one place more. -/
theorem memWrite1_agree {a b : Buf} {p : Nat}
    (h : ∀ (j : Nat) (hj : j < 28), j + 4 < p → a[j] = b[j]) {k : Fin 28} (hk : k.val = p - 4)
    (v : Byte) (j : Nat) (hj : j < 28) (hjp : j + 4 < p + 1) :
    (memWrite1 a k v)[j] = (memWrite1 b k v)[j] := by
  rw [memWrite1_get, memWrite1_get]
  split_ifs with hjk
  · rfl
  · exact h j hj (by omega)

theorem sameButStaleBuf_storeCovered {s t : State} (h : sameButStaleBuf s t) (b : Byte) :
    sameButStaleBuf (s.storeCovered b) (t.storeCovered b) := by
  obtain ⟨ht, hbuf⟩ := h
  have hpos : t.pos = s.pos := by rw [ht]
  refine ⟨by rw [ht]; rfl, fun j hj hlt => ?_⟩
  have hle : (s.pos + 1).toNat ≤ s.pos.toNat + 1 := by
    rw [BitVec.toNat_add]; exact Nat.mod_le _ _
  rw [State.storeCovered_buf, State.storeCovered_buf, hpos]
  exact memWrite1_agree hbuf (bodyIndex_val s.pos) b j hj (lt_of_lt_of_le hlt hle)

/-- At the verification step every byte that is committed has been reached. -/
theorem measOf_agree {a b : Buf} (h : ∀ (j : Nat) (hj : j < 28), j < 24 → a[j] = b[j]) :
    measOf a = measOf b := by
  ext1 k hk
  rw [measOf_get, measOf_get, h (2 * k) _ (by omega), h (2 * k + 1) _ (by omega)]

/-- Every selected operation keeps stale bytes stale, or clears them. -/
theorem sameButStaleBuf_effect {s t : State} {i : Instr} (h : sameButStaleBuf s t)
    (hf : rowFits s.ctx i = true) : sameButStaleBuf (effect i s) (effect i t) := by
  have ⟨ht, hbuf⟩ := h
  cases i with
  | startIgn | tickIgn | cancelIgn | ioerrIgn | byteIgn | nop | synSkip => exact h
  | tickDec => exact ⟨by rw [ht]; rfl, hbuf⟩
  | reset | startRun | tickExp | cancelFin | ioerrFin | synM1 | synM2 | synRearm | synDrop | lenHi
  | lenLoOk | lenLoBad | ckLoBad =>
    exact sameButStaleBuf_of_pos_le (by rw [ht]; rfl) (Nat.le_of_ble_eq_true rfl)
  | bodyMeas b | bodyRsv b => exact sameButStaleBuf_storeCovered h b
  | ckHi b =>
    obtain ⟨-, hp⟩ := rowFits_ckHi.1 hf
    rw [State.ctx_pos] at hp
    refine ⟨by rw [ht]; rfl, memWrite1_agree (p := 30) (fun j hj hlt => hbuf j hj ?_) rfl b⟩
    omega
  | ckLoOk b =>
    obtain ⟨⟨-, hp⟩, -⟩ := rowFits_ckLoOk.1 hf
    rw [State.ctx_pos] at hp
    have hmeas : measOf s.buf = measOf t.buf :=
      measOf_agree fun j hj hlt => hbuf j hj (by omega)
    have heq : effect (.ckLoOk b) t = effect (.ckLoOk b) s :=
      calc effect (.ckLoOk b) t
          = { t.finish .ok with meas := measOf t.buf } := rfl
        _ = { t.finish .ok with meas := measOf s.buf } := by rw [hmeas]
        _ = effect (.ckLoOk b) s := by rw [ht]; rfl
    exact ⟨by rw [heq], fun j hj _ => by rw [heq]⟩

theorem traceOf_cons (e : Event) (es : List Event) (s : State) :
    traceOf (e :: es) s = select s.ctx e :: traceOf es (effect (select s.ctx e) s) := by
  simp only [traceOf, applyEvent_eq]

/-- Settles O59: the relation is kept along the run, and the outputs do not show `BUF`. -/
theorem staleBufferBytesAreInvisible : Obligations.StaleBufferBytesAreInvisible := by
  intro es
  induction es with
  | nil =>
    intro s t h
    have hout : s.outputs = t.outputs := by rw [h.1]; rfl
    exact ⟨s, t, rfl, rfl, hout, rfl⟩
  | cons e es ih =>
    intro s t h
    have hsel := select_of_sameButStaleBuf h e
    obtain ⟨u, v, hu, hv, hout, htrace⟩ :=
      ih _ _ (sameButStaleBuf_effect h (rowFits_select s.ctx e))
    refine ⟨u, v, by rwa [runEvents_cons], by rwa [runEvents_cons, hsel], hout, ?_⟩
    rw [traceOf_cons, traceOf_cons, hsel, htrace]

end Sys2Proof.Machine
end

section
/-! PROOFS. The result is written as a whole (20_memory.md R46), and the parts of a short read join to
the whole read (20_memory.md R42). -/

namespace Sys2Proof.Machine

/-! ### The measurement -/

/-- The writers of `MEAS`, and what each writes (R17, R46). -/
theorem effect_meas_cases (i : Instr) (s : State) :
    (isHostStart i = true ∧ (effect i s).meas = zeroMeas) ∨
    ((∃ b, i = .ckLoOk b) ∧ (effect i s).meas = measOf s.buf) ∨
    (effect i s).meas = s.meas := by
  cases i with
  | reset | startRun => exact .inl ⟨rfl, rfl⟩
  | ckLoOk b => exact .inr (.inl ⟨⟨b, rfl⟩, rfl⟩)
  | _ => exact .inr (.inr rfl)

/-- The value of a measurement field of the body (R43, R113). -/
theorem measOf_toNat (buf : Buf) (k : Nat) (h : k < 12) :
    (measOf buf)[k].toNat = 256 * buf[2 * k].toNat + buf[2 * k + 1].toNat := by
  rw [measOf_get, be16_toNat]

/-- Settles O38: by the writers of `MEAS`. -/
theorem measurementIsNeverPartial : Obligations.MeasurementIsNeverPartial := by
  intro i s t h
  obtain ⟨-, rfl⟩ := exec_next h
  obtain ⟨hi, hm⟩ | ⟨⟨b, rfl⟩, hm⟩ | hm := effect_meas_cases i s
  · exact .inr (.inl ⟨hm, hi⟩)
  · exact .inr (.inr ⟨⟨b, rfl⟩, rfl, fun k hk => by rw [hm, measOf_toNat s.buf k hk]⟩)
  · exact .inl hm

/-! ### Reads in two parts -/

/-- A NOP anywhere in a run changes nothing (R141). -/
theorem runEvents_append_nop_append (es fs : List Event) (s : State) :
    runEvents (es ++ [.nop] ++ fs) s = runEvents (es ++ fs) s := by
  induction es generalizing s with
  | nil => exact runEvents_cons_of_next (exec_nop s)
  | cons e es ih => simp only [List.cons_append, runEvents_cons, ih]

/-- A read that returns all its bytes is seen as these bytes (R42, first row). -/
theorem readEvents_of_full {n : Nat} {bs : List Byte} (h : n ≤ bs.length) :
    readEvents n (.returned bs) = byteEvents bs := by
  simp [readEvents, byteEvents, h]

/-- A short read is seen as its bytes and a NOP (R42, second row). -/
theorem readEvents_of_short {n : Nat} {bs : List Byte} (h : bs.length < n) :
    readEvents n (.returned bs) = byteEvents bs ++ [.nop] := by
  simp [readEvents, byteEvents, h]

theorem byteEvents_append (as bs : List Byte) :
    byteEvents (as ++ bs) = byteEvents as ++ byteEvents bs := List.map_append

/-- Settles O45: only the NOP of the short part is more than the whole read, and it changes nothing. -/
theorem shortReadsResume : Obligations.ShortReadsResume := by
  intro s n as bs hn
  have hwhole : n ≤ (as ++ bs).length := by rw [List.length_append, hn]
  have hrest : n - as.length ≤ bs.length := by omega
  rw [readEvents_of_full hwhole, readEvents_of_full hrest, byteEvents_append]
  by_cases hshort : as.length < n
  · rw [readEvents_of_short hshort, runEvents_append_nop_append]
  · rw [readEvents_of_full (Nat.le_of_not_lt hshort)]

end Sys2Proof.Machine
end

section
/-! PROOFS. The words of the events (R67): a word is read as an event exactly when it is the word of
that event, and the operation a word decodes to is the one whose word it is and whose row of R68 fits
the state. -/

namespace Sys2Proof

/-! ### The fields of a word and its event -/

theorem kindField_encodeEvent (e : Event) : kindField (encodeEvent e) = e.kind.code :=
  kindField_append _ _

theorem operandField_encodeEvent (e : Event) : operandField (encodeEvent e) = e.operand :=
  operandField_append _ _

/-- The word as a number. -/
theorem encodeEvent_toNat (e : Event) :
    (encodeEvent e).toNat = e.kind.code.toNat * 2 ^ 32 + e.operand.toNat := by
  rw [← kindField_encodeEvent, ← operandField_encodeEvent, kindField_toNat, operandField_toNat,
    Nat.mul_comm, Nat.div_add_mod]

/-- Settles O6: the kind code and the operand of each event. -/
theorem eventWordLayout : Obligations.EventWordLayout := by
  refine ⟨rfl, fun b => ?_, rfl, rfl, rfl, fun n => encodeEvent_toNat (.start n), rfl⟩
  have hoperand : (Event.byte b).operand.toNat = b.toNat :=
    BitVec.toNat_setWidth_of_le (by decide)
  rw [encodeEvent_toNat, hoperand]
  rfl

/-! ### A word that is read is the word of its event -/

/-- A word with the two fields of an event is the word of the event. -/
theorem encodeEvent_of_fields {w : EventWord} {e : Event} (hk : kindField w = e.kind.code)
    (ho : operandField w = e.operand) : encodeEvent e = w := by
  rw [encodeEvent, ← hk, ← ho, append_fields]

theorem decodeE0_ok {w : EventWord} {e e' : Event} (h : decodeE0 w e' = .ok e) :
    e = e' ∧ operandField w = 0 := by
  unfold decodeE0 at h
  split_ifs at h with ho
  cases h
  exact ⟨rfl, ho⟩

/-- The operand is `{operand[31:8], operand[7:0]}` (format EB). -/
theorem operand_eq_append (o : BitVec 32) : o = o.extractLsb' 8 24 ++ o.extractLsb' 0 8 := by
  rw [BitVec.extractLsb'_append_extractLsb'_eq_extractLsb' (start₁ := 0) (len₁ := 8) rfl]
  exact BitVec.extractLsb'_eq_self.symm

theorem byteOperand_eq_append (b : Byte) : b.setWidth 32 = 0#24 ++ b := by
  have h := operand_eq_append (b.setWidth 32)
  rwa [byteOperand_high, byteOperand_low] at h

/-- An operand whose upper 24 bits are zero is the operand of its low byte. -/
theorem eq_byteOperand {o : BitVec 32} (h : o.extractLsb' 8 24 = 0) :
    o = (o.extractLsb' 0 8).setWidth 32 := by
  conv_lhs => rw [operand_eq_append o, h]
  exact (byteOperand_eq_append _).symm

theorem decodeEB_ok {w : EventWord} {e : Event} (h : decodeEB w = .ok e) :
    ∃ b, e = .byte b ∧ operandField w = b.setWidth 32 := by
  unfold decodeEB at h
  split_ifs at h with hhigh
  cases h
  exact ⟨_, rfl, eq_byteOperand hhigh⟩

/-- By the format of each kind (R67). -/
theorem encodeEvent_of_decodeEvent {w : EventWord} {e : Event} (h : decodeEvent w = .ok e) :
    encodeEvent e = w := by
  unfold decodeEvent at h
  cases hk : EventKind.ofCode (kindField w) with
  | none => rw [hk] at h; cases h
  | some k =>
    rw [hk] at h
    have hcode := (code_of_ofCode _ k hk).symm
    cases k with
    | byte =>
      obtain ⟨b, rfl, ho⟩ := decodeEB_ok h
      exact encodeEvent_of_fields hcode ho
    | start =>
      cases h
      exact encodeEvent_of_fields hcode rfl
    | nop | ioerr | tick | cancel | reset =>
      obtain ⟨rfl, ho⟩ := decodeE0_ok h
      exact encodeEvent_of_fields hcode ho

/-- Reading a word and writing an event are inverse to each other. -/
theorem decodeEvent_ok_iff {w : EventWord} {e : Event} :
    decodeEvent w = .ok e ↔ encodeEvent e = w :=
  ⟨encodeEvent_of_decodeEvent, fun h => h ▸ decodeEvent_encodeEvent e⟩

/-- Settles O7: the round trip both ways, and the words that are no event. -/
theorem eventWordsRoundTrip : Obligations.EventWordsRoundTrip :=
  ⟨decodeEvent_encodeEvent, fun _ _ => encodeEvent_of_decodeEvent, Machine.decodeEvent_error_iff⟩

/-! ### What the decoder answers -/

/-- In a state, a word decodes to exactly the operation whose word it is and whose row of R68 fits. -/
theorem decode_ok_iff {c : Ctx} {w : EventWord} {i : Instr} :
    decode c w = .ok i ↔ encode i = w ∧ rowFits c i = true := by
  constructor
  · intro h
    cases hd : decodeEvent w with
    | error r => simp [decode, hd] at h
    | ok e =>
      obtain rfl : select c e = i := by simpa [decode, hd] using h
      rw [encode, event_select]
      exact ⟨encodeEvent_of_decodeEvent hd, rowFits_select c e⟩
  · rintro ⟨rfl, hf⟩
    rw [encode, decode_encodeEvent, select_event_of_fits hf]

/-- The rows that fit some state are those of the well-formed operations (R91, R94, R101). -/
theorem wellFormed_of_rowFits {c : Ctx} {i : Instr} (hf : rowFits c i = true) :
    i.wellFormed = true := by
  cases i with
  | synSkip b => exact Laws.FitsIsWellFormed.synSkip b c hf
  | synDrop b => exact Laws.FitsIsWellFormed.synDrop b c hf
  | lenLoOk b => exact Laws.FitsIsWellFormed.lenLoOk b c hf
  | _ => rfl

/-- A running session at a position, with `REARM = 0`, that has read `LENHI = lenHi` and holds `acc`. -/
def sessionAt (p : Pos) (lenHi : Byte) (acc : Half) : Ctx :=
  { sess := .running, pos := p, timer := 0, lenHi := lenHi, acc := acc, ckHi := 0, rearm := false }

/-- For each operation a state that selects it, if it is well formed (R68). -/
def selectingCtx : Instr → Ctx
  | .reset | .startRun _ | .tickIgn | .cancelIgn | .ioerrIgn | .byteIgn _ | .nop => Ctx.afterReset
  | .tickDec => { sessionAt 0 0 0 with timer := 1 }
  | .startIgn _ | .tickExp | .cancelFin | .ioerrFin | .synM1 | .synSkip _ => sessionAt 0 0 0
  | .synRearm => { sessionAt 1 0 0 with rearm := true }
  | .synM2 | .synDrop _ => sessionAt 1 0 0
  | .lenHi _ => sessionAt 2 0 0
  | .lenLoOk _ => sessionAt 3 0 0
  | .lenLoBad _ => sessionAt 3 1 0
  | .bodyMeas _ => sessionAt 4 0 0
  | .bodyRsv _ => sessionAt 28 0 0
  | .ckHi _ => sessionAt 30 0 0
  | .ckLoOk b => sessionAt 31 0 (be16 0 b)
  | .ckLoBad b => sessionAt 31 0 (be16 1 b)

theorem rowFits_selectingCtx {i : Instr} (hi : i.wellFormed = true) :
    rowFits (selectingCtx i) i = true := by
  cases i with
  | synSkip b => exact hi
  | synDrop b => simpa [selectingCtx, sessionAt, rowFits, Instr.wellFormed, Config.mark2] using hi
  | lenLoOk b => exact hi
  | ckLoOk b => simp [selectingCtx, sessionAt, rowFits]
  | ckLoBad b =>
    have hne : be16 1 b ≠ be16 0 b := by rw [ne_eq, eq_be16_iff, be16_toNat]; simp
    simpa [selectingCtx, sessionAt, rowFits] using hne
  | _ => rfl

/-- Settles O8: a state for each operation, and the row that fits is the one the decoder answers. -/
theorem decodeOfEncodeIsTheOperation : Obligations.DecodeOfEncodeIsTheOperation :=
  ⟨fun _ hi => ⟨_, rowFits_selectingCtx hi⟩, fun _ _ hf => decode_ok_iff.2 ⟨rfl, hf⟩⟩

/-- Settles O9: the word and the row by `decode_ok_iff`. -/
theorem decodedOperationFitsItsRow : Obligations.DecodedOperationFitsItsRow := by
  intro c w i h
  obtain ⟨hw, hf⟩ := decode_ok_iff.1 h
  exact ⟨hw, hf, wellFormed_of_rowFits hf⟩

end Sys2Proof
end

section
/-! PROOFS. The tables of the spec: the masks and matches of the opcode table (R67), and the operation
map R68 read row by row, in the states that select an operation and in those that do not. -/

namespace Sys2Proof

/-! ### The opcode table -/

/-- A mask acts on the two fields of a word. -/
theorem encodeEvent_and_append (e : Event) (k : BitVec 3) (o : BitVec 32) :
    encodeEvent e &&& (k ++ o) = (e.kind.code &&& k) ++ (e.operand &&& o) := BitVec.and_append

/-- A byte operand is zero under the mask of the upper 24 operand bits. -/
theorem byteOperand_and_mask (b : Byte) : b.setWidth 32 &&& 0xFFFFFF00#32 = 0#32 :=
  calc b.setWidth 32 &&& 0xFFFFFF00
      = (0#24 ++ b) &&& (0xFFFFFF#24 ++ 0#8) := by rw [byteOperand_eq_append]; rfl
    _ = (0#24 &&& 0xFFFFFF#24) ++ (b &&& 0#8) := BitVec.and_append
    _ = 0 := by rw [BitVec.and_zero]; rfl

/-- A BYTE word under the mask of the rows whose byte is free. -/
theorem encodeEvent_byte_and_mask (b : Byte) :
    encodeEvent (.byte b) &&& 0x7FFFFFF00 = 0x100000000 :=
  calc encodeEvent (.byte b) &&& 0x7FFFFFF00
      = (1#3 &&& 7#3) ++ (b.setWidth 32 &&& 0xFFFFFF00#32) :=
        encodeEvent_and_append (.byte b) 7 0xFFFFFF00
    _ = 0x100000000 := by rw [byteOperand_and_mask]; rfl

/-- A START word under the mask of its two rows. -/
theorem encodeEvent_start_and_mask (n : Ticks) :
    encodeEvent (.start n) &&& 0x700000000 = 0x500000000 :=
  calc encodeEvent (.start n) &&& 0x700000000
      = (5#3 &&& 7#3) ++ (n &&& 0#32) := encodeEvent_and_append (.start n) 7 0
    _ = 0x500000000 := by rw [BitVec.and_zero]; rfl

/-- The word of an operation fits its row of the table. -/
theorem encode_and_tableMask (i : Instr) : encode i &&& tableMask i = tableMatch i := by
  cases i with
  | startRun n | startIgn n => exact encodeEvent_start_and_mask n
  | byteIgn b | synSkip b | synDrop b | lenHi b | lenLoOk b | lenLoBad b | bodyMeas b | bodyRsv b
  | ckHi b | ckLoOk b | ckLoBad b => exact encodeEvent_byte_and_mask b
  | _ => rfl

/-- Settles O13: the word is the word of the operation. -/
theorem decodedWordsFitTheOpcodeTable : Obligations.DecodedWordsFitTheOpcodeTable := by
  intro c w i h
  rw [← (decode_ok_iff.1 h).1]
  exact encode_and_tableMask i

/-- Settles O14: the words of section 8 of the test vectors, evaluated. -/
theorem wordsOfTheSpecDecode : Obligations.WordsOfTheSpecDecode :=
  ⟨rfl, rfl, rfl, rfl, rfl, rfl, rfl, rfl, rfl⟩

/-! ### The operation map -/

/-- Settles O11: outside a session `SESS` is not RUNNING, and inside it is. -/
theorem operationMapOfTheSession : Obligations.OperationMapOfTheSession := by
  intro c
  refine ⟨rfl, rfl, fun hidle => ?_, fun hs => ?_⟩
  · have hs : c.sess ≠ .running := by obtain h | h := hidle <;> rw [h] <;> nofun
    exact ⟨fun _ => if_pos hs, if_neg hs, if_neg hs, if_neg hs,
      fun b => selectByte_of_not_running b hs⟩
  · exact ⟨fun _ => if_neg (not_not_intro hs), fun ht => (if_pos hs).trans (if_pos ht),
      fun ht => (if_pos hs).trans (if_neg (not_not_intro ht)), if_pos hs, if_pos hs⟩

/-- The length guard as one number (R101). -/
theorem length_is_28_iff (h l : Byte) : 256 * h.toNat + l.toNat = 28 ↔ h = 0x00 ∧ l = 0x1C := by
  rw [← be16_eq_frameLen, ← be16_toNat, ← BitVec.toNat_inj]
  rfl

/-- Settles O12: by the ranges of `POS`, the two byte values that count at `POS = 1` told apart. -/
theorem operationMapOfTheBytes : Obligations.OperationMapOfTheBytes := by
  intro c b hs
  obtain ⟨h0, h1, h2, h3, hMeas, hRsv, h30, h31⟩ := selectByte_by_range c b hs
  simp only [select]
  refine ⟨h0, fun hp hb => ?_, fun hp hb => ?_, fun hp hm2 hm1 => ?_, h2, fun hp => ?_, hMeas, hRsv,
    h30, fun hp => ?_⟩
  · exact (h1 hp).trans (if_pos hb)
  · subst hb; simpa using h1 hp
  · exact (h1 hp).trans ((if_neg hm2).trans (if_neg fun h => hm1 h.1))
  · simpa only [length_is_28_iff] using h3 hp
  · simpa only [eq_be16_iff] using h31 hp

end Sys2Proof

namespace Sys2Proof.Machine

/-- Settles O32: `exec` applies the effect where the row fits and refuses elsewhere. -/
theorem unselectedOperationsAreRefused : Obligations.UnselectedOperationsAreRefused := fun i s =>
  ⟨fun hf => ⟨_, exec_of_fits hf⟩, fun hf => (exec_eq i s).trans (whenSelected_of_not_fits hf)⟩

end Sys2Proof.Machine
end

section
/-! PROOFS. The wire frame (R60 to R66, R73): the range of its checksum, and the frames built from a
measurement and a reserved field (R72). -/

namespace Sys2Proof

/-! ### The bytes of a frame -/

theorem Frame.getElem?_toList (f : Frame) {i : Nat} (hi : i < 32) : f.toList[i]? = some f[i] := by
  simp [hi]

theorem Frame.take_succ_toList (f : Frame) {n : Nat} (hn : n < 32) :
    f.toList.take (n + 1) = f.toList.take n ++ [f[n]] := by
  simp [List.take_succ_eq_append_getElem, hn]

theorem Frame.meas_getElem (f : Frame) {k : Nat} (hk : k < 12) :
    f.meas[k] = be16 f[2 * k + 4] f[2 * k + 5] := by
  simp [Frame.meas, Nat.add_comm]

/-! ### The checksum -/

/-- The marker and the length field are the accepted ones (R62). -/
structure Frame.HasHeader (f : Frame) : Prop where
  mark1 : f[0] = 0x42
  mark2 : f[1] = 0x4D
  lenHi : f[2] = 0x00
  lenLo : f[3] = 0x1C

theorem Frame.WellFormed.hasHeader {f : Frame} (hf : f.WellFormed) : f.HasHeader := by
  obtain ⟨h0, h1, h2, h3, -⟩ := hf
  exact ⟨h0, h1, h2, h3⟩

/-- The marker and the length add `0xAB` to the sum of the 26 data bytes (R64). -/
theorem Frame.HasHeader.checksum_eq {f : Frame} (hf : f.HasHeader) :
    f.checksum = 0xAB + (((f.toList.drop 4).take 26).map BitVec.toNat).sum := by
  have hhead : f.toList.take 4 = [f[0], f[1], f[2], f[3]] := by
    simp [List.take_succ_eq_append_getElem]
  rw [Frame.checksum, show 30 = 4 + 26 from rfl, List.take_add, hhead, hf.mark1, hf.mark2,
    hf.lenHi, hf.lenLo, List.map_append, List.sum_append]
  rfl

theorem Frame.HasHeader.checksum_range {f : Frame} (hf : f.HasHeader) :
    0x00AB ≤ f.checksum ∧ f.checksum ≤ 0x1A91 := by
  have hle := Machine.sum_toNat_le ((f.toList.drop 4).take 26)
  have hlen : ((f.toList.drop 4).take 26).length = 26 := by simp
  have hsum := hf.checksum_eq
  omega

/-- Settles O41: the marker and the length give `0xAB`, the data bytes at most 255 each. -/
theorem checksumRange : Obligations.ChecksumRange := by
  refine ⟨fun f h0 h1 h2 h3 => Frame.HasHeader.checksum_range ⟨h0, h1, h2, h3⟩, fun f hf => ?_⟩
  obtain ⟨-, hmax⟩ := hf.hasHeader.checksum_range
  obtain ⟨-, -, -, -, hck⟩ := hf
  omega

/-! ### The bytes of 16-bit values -/

/-- A value is its two bytes, high first (R43). -/
theorem be16_highByte_lowByte (v : Half) : be16 (highByte v) (lowByte v) = v := by
  rw [be16, highByte, lowByte,
    BitVec.extractLsb'_append_extractLsb'_eq_extractLsb' (start₁ := 0) (len₁ := 8) rfl]
  exact BitVec.extractLsb'_eq_self

/-- Value `k` of a sequence is sent as bytes `2k` and `2k + 1` (R63). -/
theorem getElem?_flatMap_halfBytes (l : List Half) (k : Nat) :
    (l.flatMap halfBytes)[2 * k]? = l[k]?.map highByte ∧
      (l.flatMap halfBytes)[2 * k + 1]? = l[k]?.map lowByte := by
  induction l generalizing k with
  | nil => exact ⟨rfl, rfl⟩
  | cons v l ih =>
    cases k with
    | zero => exact ⟨rfl, rfl⟩
    | succ k => exact ih k

/-! ### The built frame -/

theorem length_measBytes (m : Meas) : (m.toList.flatMap halfBytes).length = 24 := by
  simp [halfBytes]

theorem length_frameData (m : Meas) (rsv : Half) : (frameData m rsv).length = 30 := by
  simp [frameData, halfBytes]

theorem length_frameBytes (m : Meas) (rsv : Half) : (frameBytes m rsv).length = 32 := by
  simp [frameBytes, frameBytesCk, length_frameData, halfBytes]

/-- The bytes after the length field: the measurement, the reserved field and the checksum. -/
theorem frameBytesCk_getElem?_body (m : Meas) (rsv ck : Half) (j : Nat) :
    (frameBytesCk m rsv ck)[j + 4]? =
      (m.toList.flatMap halfBytes ++ (halfBytes rsv ++ halfBytes ck))[j]? := by
  rw [← List.append_assoc]
  rfl

/-- Measurement field `k` is at offsets `2k + 4` and `2k + 5` (R60, R72). -/
theorem frameBytesCk_getElem?_meas (m : Meas) (rsv ck : Half) (k : Nat) (hk : k < 12) :
    (frameBytesCk m rsv ck)[2 * k + 4]? = some (highByte m[k]) ∧
      (frameBytesCk m rsv ck)[2 * k + 5]? = some (lowByte m[k]) := by
  have hlen := length_measBytes m
  obtain ⟨hhi, hlo⟩ := getElem?_flatMap_halfBytes m.toList k
  have hm : m.toList[k]? = some m[k] := by simp [hk]
  rw [hm] at hhi hlo
  rw [frameBytesCk_getElem?_body, frameBytesCk_getElem?_body m rsv ck (2 * k + 1),
    List.getElem?_append_left (by omega), List.getElem?_append_left (by omega)]
  exact ⟨hhi, hlo⟩

/-- The reserved field and the checksum field are at offsets 28 to 31 (R60, R72). -/
theorem frameBytesCk_getElem?_tail (m : Meas) (rsv ck : Half) (j : Nat) :
    (frameBytesCk m rsv ck)[j + 28]? = (halfBytes rsv ++ halfBytes ck)[j]? := by
  have hlen := length_measBytes m
  rw [show j + 28 = j + 24 + 4 by omega, frameBytesCk_getElem?_body,
    List.getElem?_append_right (by omega), hlen, Nat.add_sub_cancel]

/-- Each field of a built frame is the one given (R72). -/
theorem fields_of_frameBytesCk {m : Meas} {rsv ck : Half} {f : Frame}
    (hf : f.toList = frameBytesCk m rsv ck) :
    f.HasHeader ∧ f.meas = m ∧ f.rsv = rsv ∧ f.ck = ck := by
  have hget {i : Nat} (hi : i < 32) {b : Byte} (h : (frameBytesCk m rsv ck)[i]? = some b) :
      f[i] = b :=
    Option.some.inj ((f.getElem?_toList hi).symm.trans ((congrArg (·[i]?) hf).trans h))
  have htail := frameBytesCk_getElem?_tail m rsv ck
  refine ⟨⟨hget _ rfl, hget _ rfl, hget _ rfl, hget _ rfl⟩, ?_, ?_, ?_⟩
  · ext1 k hk
    obtain ⟨hhi, hlo⟩ := frameBytesCk_getElem?_meas m rsv ck k hk
    rw [f.meas_getElem hk, hget _ hhi, hget _ hlo, be16_highByte_lowByte]
  · rw [Frame.rsv, hget _ (htail 0), hget _ (htail 1), be16_highByte_lowByte]
  · rw [Frame.ck, hget _ (htail 2), hget _ (htail 3), be16_highByte_lowByte]

/-- The checksum field that is appended does not wrap in 16 bits (R64). -/
theorem checksum_of_frameBytes {m : Meas} {rsv : Half} {f : Frame}
    (hf : f.toList = frameBytes m rsv) :
    (BitVec.ofNat 16 ((frameData m rsv).map BitVec.toNat).sum : Half).toNat = f.checksum := by
  have hle := Machine.sum_toNat_le (frameData m rsv)
  rw [length_frameData] at hle
  rw [Frame.checksum, hf, frameBytes, frameBytesCk, List.take_left' (length_frameData m rsv),
    BitVec.toNat_ofNat, Nat.mod_eq_of_lt (by omega)]

/-- Settles O42: the fields given, and the checksum field is the sum of the 30 bytes before it. -/
theorem builtFramesAreWellFormed : Obligations.BuiltFramesAreWellFormed := by
  refine fun m rsv => ⟨length_frameBytes m rsv, fun f hf => ?_⟩
  obtain ⟨⟨h0, h1, h2, h3⟩, hmeas, hrsv, hck⟩ := fields_of_frameBytesCk hf
  have hsum : 256 * f[30].toNat + f[31].toNat = f.checksum := by
    rw [← be16_toNat, ← checksum_of_frameBytes hf, ← hck, Frame.ck]
  exact ⟨⟨h0, h1, h2, h3, hsum⟩, hmeas, hrsv⟩

end Sys2Proof
end

section
/-! PROOFS. A frame taken byte by byte from `POS = 0` in a running session: the first 31 bytes of a
frame with marker and length are held as they are, and the last one verifies a well-formed frame; so
nothing of the frame but its measurement is left (R66, R73, R120). -/

namespace Sys2Proof.Machine

/-! ### The bytes a frame goes on with -/

/-- A byte that neither breaks the marker nor the length is taken, at every position but the last. -/
theorem advances_select_byte {s : State} {b : Byte} (hs : s.sess = .running)
    (hlt : s.pos.toNat < 31) (hmark1 : s.pos.toNat = 0 → b = 0x42)
    (hmark2 : s.pos.toNat = 1 → b = 0x4D)
    (hlen : s.pos.toNat = 3 → s.lenHi = 0x00 ∧ b = 0x1C) :
    Advances b s (effect (select s.ctx (.byte b)) s) := by
  obtain ⟨h0, h1, h2, h3, hMeas, hRsv, h30, -⟩ := selectByte_by_range s.ctx b hs
  rw [State.ctx_pos] at h0 h1 h2 h3 hMeas hRsv h30
  rw [select]
  obtain h | h | h | h | ⟨hl, hu⟩ | ⟨hl, hu⟩ | h :
      s.pos.toNat = 0 ∨ s.pos.toNat = 1 ∨ s.pos.toNat = 2 ∨ s.pos.toNat = 3 ∨
        (4 ≤ s.pos.toNat ∧ s.pos.toNat ≤ 27) ∨ (28 ≤ s.pos.toNat ∧ s.pos.toNat ≤ 29) ∨
        s.pos.toNat = 30 := by omega
  · obtain rfl := hmark1 h
    rw [h0 h]
    exact advances_synM1 h
  · obtain rfl := hmark2 h
    rw [h1 h]
    exact advances_synM2 h
  · rw [h2 h]
    exact advances_lenHi b h
  · obtain ⟨hhi, rfl⟩ := hlen h
    rw [h3 h, if_pos ⟨hhi, rfl⟩]
    exact advances_lenLoOk h hhi
  · rw [hMeas hl hu]
    exact advances_storeCovered b hl (by omega)
  · rw [hRsv hl hu]
    exact advances_storeCovered b (by omega) hu
  · rw [h30 h]
    exact advances_ckHi b h

/-- The invariants of R21 say that at `POS = 0` no byte is held. -/
theorem holdsAttempt_nil_of_inv {s : State} (hi : Inv s) (hpos : s.pos = 0) :
    HoldsAttempt [] s := by
  have hp0 : s.pos.toNat = 0 := by rw [hpos]; rfl
  have hacc : s.acc = 0 := BitVec.eq_of_toNat_eq (by rw [hi.acc, coveredSum, if_pos hp0]; rfl)
  exact holdsAttempt_nil hpos hacc fun i h => hi.buf i h (by omega)

section
variable {s : State} {f : Frame} {n : Nat}

/-- A state that holds the first bytes of a frame is at the offset of the next one. -/
theorem pos_of_holdsFrame (ha : HoldsAttempt (f.toList.take n) s) (hn : n < 32) :
    s.pos.toNat = n := by
  rw [← ha.length, List.length_take_of_le (by simp; omega)]

/-- The body bytes of a frame that have been taken are in `BUF` (R61). -/
theorem buf_of_holdsFrame (ha : HoldsAttempt (f.toList.take n) s) (hn : n < 32) {i : Nat}
    (hi : i + 4 < n) : s.buf[i] = f[i + 4] := by
  have hbody := ha.body i (by omega) (by rwa [pos_of_holdsFrame ha hn])
  rw [List.getElem?_take_of_lt hi, f.getElem?_toList (by omega)] at hbody
  exact (Option.some.inj hbody).symm

/-- The next byte of a frame with marker and length is taken. -/
theorem advances_of_holdsFrame (hs : s.sess = .running) (hf : f.HasHeader)
    (ha : HoldsAttempt (f.toList.take n) s) (hn : n < 31) :
    Advances f[n] s (effect (select s.ctx (.byte f[n])) s) := by
  have hpos : s.pos.toNat = n := pos_of_holdsFrame ha (by omega)
  refine advances_select_byte hs (by omega) ?_ ?_ ?_ <;> rw [hpos]
  · rintro rfl; exact hf.mark1
  · rintro rfl; exact hf.mark2
  · rintro rfl
    have hhi := ha.lenHi hpos
    rw [List.getElem?_take_of_lt (by omega), f.getElem?_toList (by omega), hf.lenHi] at hhi
    exact ⟨(Option.some.inj hhi).symm, hf.lenLo⟩

/-- The first `n` bytes of a frame with marker and length are held, and only the elements of the
attempt change. -/
theorem runEvents_take_frame (hs : s.sess = .running) (hf : f.HasHeader) (hnil : HoldsAttempt [] s)
    (hn : n ≤ 31) : ∃ t, runEvents (byteEvents (f.toList.take n)) s = .next t ∧
      HoldsAttempt (f.toList.take n) t ∧
      t = { s with pos := t.pos, acc := t.acc, lenHi := t.lenHi, buf := t.buf } := by
  induction n with
  | zero => exact ⟨s, rfl, hnil, rfl⟩
  | succ n ih =>
    obtain ⟨t, hrun, ha, hframe⟩ := ih (by omega)
    have hadv := advances_of_holdsFrame (by rw [hframe]; exact hs) hf ha (by omega)
    rw [f.take_succ_toList (by omega)]
    refine ⟨_, ?_, holdsAttempt_of_advances ha hadv, ?_⟩
    · rw [byteEvents_append, runEvents_append_of_next hrun]
      exact runEvents_cons _ [] t
    · rw [hadv.frame, hframe]

end

/-! ### The last byte -/

section
variable {s : State} {f : Frame}

/-- With 31 bytes of a frame held, `ACC` is its checksum (R64, I7). -/
theorem acc_of_holdsFrame (ha : HoldsAttempt (f.toList.take 31) s) :
    s.acc.toNat = f.checksum := by
  rw [ha.acc, List.take_take, Frame.checksum]
  rfl

/-- With 31 bytes of a frame held, `BUF` shows its measurement (R73, R120). -/
theorem measOf_of_holdsFrame (ha : HoldsAttempt (f.toList.take 31) s) :
    measOf s.buf = f.meas := by
  ext1 k hk
  have hhi : s.buf[2 * k] = f[2 * k + 4] := buf_of_holdsFrame ha (by omega) (by omega)
  have hlo : s.buf[2 * k + 1] = f[2 * k + 5] := buf_of_holdsFrame ha (by omega) (by omega)
  rw [measOf_get, hhi, hlo, f.meas_getElem hk]

/-- The last byte verifies the frame exactly when the checksum field is the checksum (R120, R121). -/
theorem select_last_byte (hs : s.sess = .running) (ha : HoldsAttempt (f.toList.take 31) s) :
    select s.ctx (.byte f[31]) =
      if 256 * f[30].toNat + f[31].toNat = f.checksum then .ckLoOk f[31] else .ckLoBad f[31] := by
  obtain ⟨-, -, -, -, -, -, -, h31⟩ := selectByte_by_range s.ctx f[31] hs
  have hpos : s.pos.toNat = 31 := pos_of_holdsFrame ha (by omega)
  have hck : s.buf[26] = f[30] := buf_of_holdsFrame ha (by omega) (by omega)
  rw [select, h31 hpos]
  simp only [eq_be16_iff, State.ctx_acc, State.ctx_ckHi, acc_of_holdsFrame ha, hck, eq_comm]

/-- A well-formed frame ends the session with its measurement, and leaves no other byte (R120). -/
theorem runEvents_wellFormed_frame (hs : s.sess = .running) (hnil : HoldsAttempt [] s)
    (hf : f.WellFormed) :
    runEvents (byteEvents f.toList) s = .next { s.finish .ok with meas := f.meas } := by
  obtain ⟨t, hrun, ha, hframe⟩ := runEvents_take_frame hs hf.hasHeader hnil (Nat.le_refl 31)
  have hlast : f.toList = f.toList.take 31 ++ [f[31]] := by
    rw [← f.take_succ_toList (by omega), List.take_of_length_le (by simp)]
  obtain ⟨-, -, -, -, hck⟩ := hf
  have hsel : select t.ctx (.byte f[31]) = .ckLoOk f[31] := by
    rw [select_last_byte (by rw [hframe]; exact hs) ha, if_pos hck]
  calc runEvents (byteEvents f.toList) s
      = runEvents [.byte f[31]] t := by
        rw [hlast, byteEvents_append, runEvents_append_of_next hrun]; rfl
    _ = .next (effect (.ckLoOk f[31]) t) := by rw [runEvents_cons, hsel]; rfl
    _ = .next { t.finish .ok with meas := measOf t.buf } := rfl
    _ = .next { s.finish .ok with meas := f.meas } := by
        rw [measOf_of_holdsFrame ha, hframe]; rfl

end

/-- Settles O55: the state after a well-formed frame depends on its measurement only. -/
theorem reservedFieldIsNeverDelivered : Obligations.ReservedFieldIsNeverDelivered := by
  intro s f g hi hs hpos hf hg hmeas
  have hnil := holdsAttempt_nil_of_inv hi hpos
  refine ⟨_, runEvents_wellFormed_frame hs hnil hf, ?_, rfl⟩
  rw [runEvents_wellFormed_frame hs hnil hg, hmeas]

end Sys2Proof.Machine
end

section
/-! PROOFS. The frame synchronizer (41_synchronizer.md): the effect of its operations, and the
marker scan. While the scan runs, the block is at `POS = 0` with nothing held or has taken one `0x42`;
each byte but the `0x4D` that completes the marker leaves it in one of these two states (R96). -/

namespace Sys2Proof.Machine

/-! ### The operations -/

/-- Settles O21: both rows fit, and each marker byte is added as a constant. -/
theorem markerBytesAreCounted : Obligations.MarkerBytesAreCounted :=
  ⟨fun _ hs hp => exec_of_fits (rowFits_synM1.2 ⟨hs, congrArg BitVec.toNat hp⟩),
    fun _ hs hp => exec_of_fits (rowFits_synM2.2 ⟨hs, congrArg BitVec.toNat hp⟩)⟩

/-- Settles O22: the row fits, and the operation has no effect. -/
theorem noiseIsSkipped : Obligations.NoiseIsSkipped :=
  fun _ _ hs hp hb => exec_of_fits (rowFits_synSkip.2 ⟨⟨hs, congrArg BitVec.toNat hp⟩, hb⟩)

/-- R94: any byte but `0x4D` breaks the marker, and `0x42` does so with `REARM = 0` only. -/
theorem rowFits_synDrop {c : Ctx} {b : Byte} : rowFits c (.synDrop b) = true ↔
    (c.sess = .running ∧ c.pos.toNat = 1) ∧ b ≠ 0x4D ∧ (b = 0x42 → c.rearm = false) := by
  simp [rowFits, pos_eq_iff, imp_iff_not_or, and_assoc]

/-- Settles O24: the row fits, and the operation is an AttemptReset. -/
theorem brokenMarkerDrops : Obligations.BrokenMarkerDrops :=
  fun _ _ hs hp hb hr =>
    exec_of_fits (rowFits_synDrop.2 ⟨⟨hs, congrArg BitVec.toNat hp⟩, hb, hr⟩)

/-! ### The two states of the scan -/

/-- The session `s` with the scan in Idle, or in SawFirstMarker with one `0x42` taken. -/
def State.scan (s : State) : Bool → State
  | false => s.attemptReset
  | true => { s.attemptReset with pos := 1, acc := 0x0042 }

/-- Up to the end of the marker an attempt is its `POS` and `ACC` (I8, I10). -/
theorem eq_of_inv_of_pos_le {s : State} (hi : Inv s) (hp : s.pos.toNat ≤ 2) :
    { s.attemptReset with pos := s.pos, acc := s.acc } = s := by
  have hlen : s.lenHi = 0 := hi.lenHi (by omega)
  have hbuf : s.buf = zeroBuf := eq_zeroBuf _ fun i h => hi.buf i h (by omega)
  change { s with lenHi := 0, buf := zeroBuf } = s
  rw [← hlen, ← hbuf]

theorem scan_false_of_inv {s : State} (hi : Inv s) (hp : s.pos = 0) : s.scan false = s := by
  have hacc : s.acc = 0 := BitVec.eq_of_toNat_eq (by simp [hi.acc, coveredSum, hp])
  have hs := eq_of_inv_of_pos_le hi (by simp [hp])
  rwa [hp, hacc] at hs

theorem scan_true_of_inv {s : State} (hi : Inv s) (hp : s.pos = 1) : s.scan true = s := by
  have hacc : s.acc = 0x0042 := BitVec.eq_of_toNat_eq (by simp [hi.acc, coveredSum, hp])
  have hs := eq_of_inv_of_pos_le hi (by simp [hp])
  rwa [hp, hacc] at hs

/-- Settles O23: the operation enters SawFirstMarker, where the state already was. -/
theorem secondFirstMarkerRearms : Obligations.SecondFirstMarkerRearms := by
  intro s hs hp hr
  have hexec : exec .synRearm s = .next (s.scan true) :=
    exec_of_fits (rowFits_synRearm.2 ⟨⟨hs, congrArg BitVec.toNat hp⟩, hr⟩)
  exact ⟨hexec, fun hi => by rw [hexec, scan_true_of_inv hi hp]⟩

/-! ### One byte -/

/-- Whether the scan is in SawFirstMarker after the byte `b`: a `0x42` is taken in Idle, and kept in
SawFirstMarker with `REARM = 1` (R90, R93, R94). -/
def armedBy (rearm armed : Bool) (b : Byte) : Bool := b == 0x42 && (rearm || !armed)

/-- Every byte but the `0x4D` that completes the marker leaves the scan in one of its two states. -/
theorem effect_byte_scan {s : State} {armed : Bool} {b : Byte} (hs : s.sess = .running)
    (hb : armed = true → b ≠ 0x4D) :
    effect (select (s.scan armed).ctx (.byte b)) (s.scan armed) =
      s.scan (armedBy s.params.rearm armed b) := by
  cases armed with
  | false =>
    obtain ⟨h0, -⟩ := selectByte_by_range (s.scan false).ctx b hs
    rw [select, h0 rfl]
    split_ifs with h42
    · simp only [armedBy, h42, Bool.not_false, Bool.or_true]
      rfl
    · simp only [armedBy, beq_false_of_ne h42, Bool.false_and]
      rfl
  | true =>
    obtain ⟨-, h1, -⟩ := selectByte_by_range (s.scan true).ctx b hs
    rw [select, h1 rfl, if_neg (hb rfl)]
    split_ifs with hr
    · have hrearm : s.params.rearm = true := hr.2
      simp only [armedBy, hr.1, hrearm]
      rfl
    · have hdrop : armedBy s.params.rearm true b = false := by
        simpa [armedBy, State.scan] using not_and.1 hr
      rw [hdrop]
      rfl

/-- In SawFirstMarker a `0x4D` completes the marker (R92). -/
theorem effect_mark2_scan {s : State} (hs : s.sess = .running) :
    effect (select (s.scan true).ctx (.byte 0x4D)) (s.scan true) =
      { s.attemptReset with pos := 2, acc := 0x008F } := by
  obtain ⟨-, h1, -⟩ := selectByte_by_range (s.scan true).ctx 0x4D hs
  rw [select, h1 rfl, if_pos rfl]
  rfl

/-! ### A sequence of bytes -/

/-- Whether the scan is in SawFirstMarker after the bytes `bs`, from Idle. -/
def armedAfter (rearm : Bool) (bs : List Byte) : Bool := bs.foldl (armedBy rearm) false

theorem armedAfter_concat (rearm : Bool) (bs : List Byte) (b : Byte) :
    armedAfter rearm (bs ++ [b]) = armedBy rearm (armedAfter rearm bs) b :=
  List.foldl_append

/-- No `0x4D` of the sequence finds the scan in SawFirstMarker. -/
def CompletesNoMarker (rearm : Bool) (bs : List Byte) : Prop :=
  ∀ p q : List Byte, bs = p ++ 0x4D :: q → armedAfter rearm p = false

theorem CompletesNoMarker.of_append {rearm : Bool} {as bs : List Byte}
    (h : CompletesNoMarker rearm (as ++ bs)) : CompletesNoMarker rearm as :=
  fun p q hpq => h p (q ++ bs) (by simp [hpq])

theorem CompletesNoMarker.ne_mark2 {rearm : Bool} {bs : List Byte} {b : Byte}
    (h : CompletesNoMarker rearm (bs ++ [b])) (harmed : armedAfter rearm bs = true) :
    b ≠ 0x4D := by
  rintro rfl
  exact Bool.false_ne_true ((h bs [] rfl).symm.trans harmed)

/-- Bytes that complete no marker leave the scan in one of its two states. -/
theorem runEvents_scan {s : State} {bs : List Byte} (hs : s.sess = .running)
    (hbs : CompletesNoMarker s.params.rearm bs) :
    runEvents (byteEvents bs) (s.scan false) = .next (s.scan (armedAfter s.params.rearm bs)) := by
  induction bs using List.reverseRecOn with
  | nil => rfl
  | append_singleton bs b ih =>
    rw [byteEvents_append, runEvents_append_of_next (ih hbs.of_append), armedAfter_concat,
      ← effect_byte_scan hs hbs.ne_mark2]
    exact runEvents_cons _ [] _

/-- The first `0x4D` that finds the scan in SawFirstMarker completes the marker. -/
theorem runEvents_scan_mark2 {s : State} {bs : List Byte} (hs : s.sess = .running)
    (hbs : CompletesNoMarker s.params.rearm bs) (harmed : armedAfter s.params.rearm bs = true) :
    runEvents (byteEvents (bs ++ [0x4D])) (s.scan false) =
      .next { s.attemptReset with pos := 2, acc := 0x008F } := by
  rw [byteEvents_append, runEvents_append_of_next (runEvents_scan hs hbs), harmed,
    ← effect_mark2_scan hs]
  exact runEvents_cons _ [] _

/-! ### With `REARM = 1` -/

theorem armedAfter_rearm (bs : List Byte) :
    armedAfter true bs = true ↔ bs.getLast? = some 0x42 := by
  induction bs using List.reverseRecOn with
  | nil => exact ⟨nofun, nofun⟩
  | append_singleton bs b _ => simp [armedAfter_concat, armedBy]

theorem hasMarker_of_pair (p q : List Byte) : hasMarker (p ++ 0x42 :: 0x4D :: q) = true := by
  induction p with
  | nil => rfl
  | cons a p ih =>
    cases p with
    | nil => simp [hasMarker]
    | cons b p => simpa [hasMarker] using Or.inr ih

theorem completesNoMarker_rearm {bs : List Byte} (h : hasMarker bs = false) :
    CompletesNoMarker true bs := by
  rintro p q rfl
  by_contra harmed
  obtain ⟨r, rfl⟩ := List.getLast?_eq_some_iff.1
    ((armedAfter_rearm p).1 (Bool.eq_true_of_not_eq_false harmed))
  rw [List.append_assoc, List.singleton_append, hasMarker_of_pair r q] at h
  cases h

/-- Settles O48: with `REARM = 1` the scan is in SawFirstMarker exactly after a `0x42`. -/
theorem markerScanWithRearm : Obligations.MarkerScanWithRearm := by
  intro s bs hi hs hp hr
  have hhome : s.attemptReset = s := scan_false_of_inv hi hp
  refine ⟨fun hbs => ?_, fun hbs => ?_⟩
  · have hrun := runEvents_scan hs (hr ▸ completesNoMarker_rearm hbs)
    rw [hr, State.scan, hhome] at hrun
    rw [hrun]
    split_ifs with hlast
    · rw [(armedAfter_rearm bs).2 hlast, State.scan, hhome]
    · rw [Bool.eq_false_of_not_eq_true (mt (armedAfter_rearm bs).1 hlast), State.scan, hhome]
  · have harmed : armedAfter true (bs ++ [0x42]) = true := (armedAfter_rearm _).2 (by simp)
    have hrun := runEvents_scan_mark2 hs (hr ▸ completesNoMarker_rearm hbs) (hr ▸ harmed)
    rwa [State.scan, hhome, List.append_assoc] at hrun

/-! ### With `REARM = 0` -/

theorem trailingRunFrom_concat (n : Nat) (bs : List Byte) (b : Byte) :
    trailingRunFrom n (bs ++ [b]) = if b = 0x42 then trailingRunFrom n bs + 1 else 0 := by
  induction bs generalizing n with
  | nil => rfl
  | cons a bs ih => exact ih _

theorem trailingRun_concat (bs : List Byte) (b : Byte) :
    trailingRun (bs ++ [b]) = if b = 0x42 then trailingRun bs + 1 else 0 :=
  trailingRunFrom_concat 0 bs b

/-- The scan alternates within a run of `0x42` bytes (R96 (b)). -/
theorem armedAfter_noRearm (bs : List Byte) :
    armedAfter false bs = true ↔ trailingRun bs % 2 = 1 := by
  induction bs using List.reverseRecOn with
  | nil => exact ⟨nofun, nofun⟩
  | append_singleton bs b ih =>
    rw [armedAfter_concat, trailingRun_concat]
    split_ifs with h42
    · simp only [armedBy, h42, beq_self_eq_true, Bool.true_and, Bool.false_or, Bool.not_eq_true',
        ← Bool.not_eq_true, ih]
      omega
    · simp only [armedBy, beq_false_of_ne h42, Bool.false_and]
      exact ⟨nofun, nofun⟩

theorem completesNoMarker_noRearm {bs : List Byte} (h : NoOddMarker bs) :
    CompletesNoMarker false bs := by
  intro p q hpq
  have heven : trailingRun p % 2 = 0 := h p q hpq
  exact Bool.eq_false_of_not_eq_true (mt (armedAfter_noRearm p).1 (by omega))

/-- Settles O49: with `REARM = 0` the scan is in SawFirstMarker exactly after a run of odd length. -/
theorem markerScanWithoutRearm : Obligations.MarkerScanWithoutRearm := by
  intro s bs hi hs hp hr hbs
  have hhome : s.attemptReset = s := scan_false_of_inv hi hp
  have hmiss : CompletesNoMarker s.params.rearm bs := hr ▸ completesNoMarker_noRearm hbs
  have hrun := runEvents_scan hs hmiss
  rw [hr, State.scan, hhome] at hrun
  refine ⟨fun heven => ?_, fun hodd => ?_⟩
  · have hidle : armedAfter false bs = false :=
      Bool.eq_false_of_not_eq_true (mt (armedAfter_noRearm bs).1 (by omega))
    rwa [hidle, State.scan, hhome] at hrun
  · have harmed : armedAfter false bs = true := (armedAfter_noRearm bs).2 hodd
    have hmark := runEvents_scan_mark2 hs hmiss (hr ▸ harmed)
    rw [harmed, State.scan, hhome] at hrun
    rw [State.scan, hhome] at hmark
    exact ⟨hrun, hmark⟩

/-! ### A damaged frame -/

/-- A frame with a wrong checksum restarts the scan and leaves nothing else (R121, R123). -/
theorem runEvents_corrupt_frame {s : State} {f : Frame} (hs : s.sess = .running)
    (hnil : HoldsAttempt [] s) (hf : f.HasHeader)
    (hck : 256 * f[30].toNat + f[31].toNat ≠ f.checksum) :
    runEvents (byteEvents f.toList) s = .next s.attemptReset := by
  obtain ⟨t, hrun, ha, hframe⟩ := runEvents_take_frame hs hf hnil (Nat.le_refl 31)
  have hlast : f.toList = f.toList.take 31 ++ [f[31]] := by
    rw [← f.take_succ_toList (by omega), List.take_of_length_le (by simp)]
  have hsel : select t.ctx (.byte f[31]) = .ckLoBad f[31] := by
    rw [select_last_byte (by rw [hframe]; exact hs) ha, if_neg hck]
  calc runEvents (byteEvents f.toList) s
      = runEvents [.byte f[31]] t := by
        rw [hlast, byteEvents_append, runEvents_append_of_next hrun]; rfl
    _ = .next (effect (.ckLoBad f[31]) t) := by rw [runEvents_cons, hsel]; rfl
    _ = .next s.attemptReset := by rw [hframe]; rfl

/-- With `REARM = 1` a `0x42` begins the same attempt in both states of the scan (R90, R93). -/
theorem runEvents_mark1_scan {s : State} (hs : s.sess = .running) (hr : s.params.rearm = true)
    (armed : Bool) (bs : List Byte) :
    runEvents (byteEvents (0x42 :: bs)) (s.scan armed) =
      runEvents (byteEvents (0x42 :: bs)) (s.scan false) := by
  have hfirst (a : Bool) :
      runEvents (byteEvents (0x42 :: bs)) (s.scan a) =
        runEvents (byteEvents bs) (s.scan true) := by
    have hstep := effect_byte_scan (armed := a) (b := 0x42) hs (fun _ => by decide)
    rw [hr] at hstep
    exact (runEvents_cons _ _ _).trans (congrArg _ hstep)
  rw [hfirst armed, hfirst false]

/-- Settles O51: after the noise the damaged frame begins a new attempt, and its last byte returns
the block to where it was. -/
theorem goodFrameAfterNoiseAndDamage : Obligations.GoodFrameAfterNoiseAndDamage := by
  intro s noise bad f hi hs hp hr hnoise h0 h1 h2 h3 hck hf
  have hnil := holdsAttempt_nil_of_inv hi hp
  have hhome : s.scan false = s := scan_false_of_inv hi hp
  have hscan := runEvents_scan hs (hr ▸ completesNoMarker_rearm hnoise)
  rw [hhome] at hscan
  obtain ⟨rest, hbad⟩ : ∃ rest, bad.toList = 0x42 :: rest :=
    ⟨_, List.eq_cons_of_mem_head? (by simp [List.head?_eq_getElem?, h0])⟩
  have hdamage (armed : Bool) : runEvents (byteEvents bad.toList) (s.scan armed) = .next s := by
    rw [hbad, runEvents_mark1_scan hs hr, ← hbad, hhome,
      runEvents_corrupt_frame hs hnil ⟨h0, h1, h2, h3⟩ hck]
    exact congrArg _ hhome
  rw [List.append_assoc, byteEvents_append, runEvents_append_of_next hscan, byteEvents_append,
    runEvents_append_of_next (hdamage _)]
  exact runEvents_wellFormed_frame hs hnil hf

end Sys2Proof.Machine
end

section
/-! PROOFS. The frame length validator (42_length_validator.md): the effect of its operations, and the
value of `ACC` after the header. -/

namespace Sys2Proof.Machine

/-- Settles O25: the row fits, and the byte is added as a number. -/
theorem firstLengthByte : Obligations.FirstLengthByte :=
  fun s b hs hp =>
    ⟨effect (.lenHi b) s, exec_of_fits (rowFits_lenHi.2 ⟨hs, congrArg BitVec.toNat hp⟩), rfl, rfl,
      addCovered_toNat s.acc b, rfl⟩

/-- I7 at the second length byte: with `LENHI = 0x00`, `ACC` holds the two marker bytes. -/
theorem acc_of_inv_lenHi_zero {s : State} (hi : Inv s) (hp : s.pos = 3) (hlen : s.lenHi = 0x00) :
    s.acc = 0x008F :=
  BitVec.eq_of_toNat_eq (by simp [hi.acc, coveredSum, hp, hlen])

/-- Settles O26: the row fits, and I7 gives `ACC` before the step. -/
theorem lengthTwentyEightPasses : Obligations.LengthTwentyEightPasses := by
  intro s hs hp hlen
  have hfits : rowFits s.ctx (.lenLoOk 0x1C) = true :=
    rowFits_lenLoOk.2 ⟨⟨hs, congrArg BitVec.toNat hp⟩, hlen, rfl⟩
  refine ⟨exec_of_fits hfits, fun hi => ?_⟩
  rw [acc_of_inv_lenHi_zero hi hp hlen]
  rfl

/-- R102: any length but 28, as one number, is refused at the second length byte. -/
theorem rowFits_lenLoBad {c : Ctx} {b : Byte} : rowFits c (.lenLoBad b) = true ↔
    (c.sess = .running ∧ c.pos.toNat = 3) ∧ 256 * c.lenHi.toNat + b.toNat ≠ 28 := by
  simp [rowFits, pos_eq_iff, length_is_28_iff, imp_iff_not_or]

/-- Settles O27: the row fits, and the error the operation raises is an AttemptReset. -/
theorem otherLengthsRestartTheScan : Obligations.OtherLengthsRestartTheScan :=
  ⟨fun _ => rfl, fun _ _ hs hp hlen =>
    exec_of_fits (rowFits_lenLoBad.2 ⟨⟨hs, congrArg BitVec.toNat hp⟩, hlen⟩)⟩

end Sys2Proof.Machine
end

section
/-! PROOFS. The frame body decoder (43_body_decoder.md): the effect of its operations. -/

namespace Sys2Proof.Machine

/-- The data bytes and the reserved bytes have one effect, at offsets 4 to 29 (R110, R111). -/
theorem exec_dataByte {s : State} {b : Byte} {i : Instr} (hs : s.sess = .running)
    (hi : (i = .bodyMeas b ∧ 4 ≤ s.pos.toNat ∧ s.pos.toNat ≤ 27) ∨
      (i = .bodyRsv b ∧ 28 ≤ s.pos.toNat ∧ s.pos.toNat ≤ 29)) :
    exec i s = .next (s.storeCovered b) := by
  obtain ⟨rfl, hl, hu⟩ | ⟨rfl, hl, hu⟩ := hi
  · exact exec_of_fits (rowFits_bodyMeas.2 ⟨⟨hs, hl⟩, hu⟩)
  · have hpos : s.pos.toNat = 28 ∨ s.pos.toNat = 29 := by omega
    exact exec_of_fits (rowFits_bodyRsv.2 ⟨hs, hpos⟩)

/-- Settles O28: both rows store the byte at `POS - 4` and add it, and `POS` does not wrap below 30. -/
theorem dataBytesAreStoredAndCounted : Obligations.DataBytesAreStoredAndCounted := by
  intro s b i hs hi
  have hadv : Advances b s (s.storeCovered b) := advances_storeCovered b (by omega) (by omega)
  exact ⟨s.storeCovered b, exec_dataByte hs hi, hadv.pos, addCovered_toNat s.acc b,
    memWrite1_get s.buf (bodyIndex s.pos) b, rfl⟩

/-- Settles O29: the row fits, and the write reaches `BUF[26]` only. -/
theorem highChecksumByteIsNotCounted : Obligations.HighChecksumByteIsNotCounted :=
  fun s b hs hp =>
    ⟨effect (.ckHi b) s, exec_of_fits (rowFits_ckHi.2 ⟨hs, congrArg BitVec.toNat hp⟩), rfl,
      memWrite1_get s.buf 26 b, rfl⟩

end Sys2Proof.Machine
end

section
/-! PROOFS. The checksum verifier (44_checksum_verifier.md): the effect of its operations. -/

namespace Sys2Proof.Machine

/-- Settles O30: the row fits, and the body before the step is committed before `Finish(OK)`. -/
theorem matchingChecksumDelivers : Obligations.MatchingChecksumDelivers := by
  intro s b hs hp hck
  have hfits : rowFits s.ctx (.ckLoOk b) = true :=
    rowFits_ckLoOk.2 ⟨⟨hs, congrArg BitVec.toNat hp⟩, (eq_be16_iff s.acc s.buf[26] b).2 hck⟩
  exact ⟨s.commitMeas.finish .ok, exec_of_fits hfits, measOf_toNat s.buf, rfl, rfl, rfl, rfl, rfl⟩

/-- R121: any other checksum, as one number, is refused at the last byte. -/
theorem rowFits_ckLoBad {c : Ctx} {b : Byte} : rowFits c (.ckLoBad b) = true ↔
    (c.sess = .running ∧ c.pos.toNat = 31) ∧ c.acc.toNat ≠ 256 * c.ckHi.toNat + b.toNat := by
  simp [rowFits, pos_eq_iff, eq_be16_iff]

/-- Settles O31: the row fits, and the error the operation raises is an AttemptReset. -/
theorem wrongChecksumRestartsTheScan : Obligations.WrongChecksumRestartsTheScan :=
  ⟨fun _ => rfl, fun _ _ hs hp hck =>
    exec_of_fits (rowFits_ckLoBad.2 ⟨⟨hs, congrArg BitVec.toNat hp⟩, hck⟩)⟩

end Sys2Proof.Machine
end

section
/-! PROOFS. The acquisition session (45_session.md): the effect of its operations, and runs:
NOP is invisible (R141), an outcome is claimed once (R143), CANCEL is honoured in every running
session (R145 (b)). -/

namespace Sys2Proof.Machine

/-! ### The operations -/

/-- Settles O15: the row fits, and the effect sets every element. -/
theorem startBeginsASession : Obligations.StartBeginsASession := by
  intro s n hs
  have hfits : rowFits s.ctx (.startRun n) = true := by simpa [rowFits] using hs
  exact ⟨_, exec_of_fits hfits, rfl, rfl, rfl, rfl, rfl⟩

/-- Settles O16: the rows fit, those outside a session by one condition, and have no effect. -/
theorem ignoringOperationsChangeNothing : Obligations.IgnoringOperationsChangeNothing := by
  refine fun s => ⟨exec_nop s, fun hs n => exec_of_fits (beq_iff_eq.2 hs), fun hs => ?_⟩
  have hidle : (s.sess == .ready || s.sess == .done) = true := by simpa using hs
  exact ⟨exec_of_fits hidle, exec_of_fits hidle, exec_of_fits hidle, fun _ => exec_of_fits hidle⟩

/-- One tick less, as a number. -/
theorem timer_sub_one_toNat {n : Ticks} (h : n ≠ 0) : (n - 1).toNat + 1 = n.toNat := by
  bv_omega

/-- Settles O17: the row fits, and `TIMER` does not wrap above zero. -/
theorem tickCountsDown : Obligations.TickCountsDown := by
  intro s hs ht
  have hfits : rowFits s.ctx .tickDec = true := by simpa [rowFits, hs] using ht
  exact ⟨_, exec_of_fits hfits, timer_sub_one_toNat ht, rfl⟩

/-! ### The events of a session -/

theorem applyEvent_nop (s : State) : applyEvent .nop s = .next s := exec_nop s

section
variable {s : State}

theorem applyEvent_start_of_not_running (hs : s.sess ≠ .running) (n : Ticks) :
    applyEvent (.start n) s =
      .next { s.clearResult.attemptReset with sess := .running, timer := n } := by
  rw [applyEvent_eq, select, State.ctx_sess, if_pos hs]
  rfl

theorem applyEvent_cancel_of_running (hs : s.sess = .running) :
    applyEvent .cancel s = .next (s.finish .cancelled) := by
  rw [applyEvent_eq, select, State.ctx_sess, if_pos hs]
  rfl

theorem applyEvent_ioerr_of_running (hs : s.sess = .running) :
    applyEvent .ioerr s = .next (s.finish .ioFailure) := by
  rw [applyEvent_eq, select, State.ctx_sess, if_pos hs]
  rfl

/-- The TICK that finds `TIMER` zero (R134). -/
theorem applyEvent_tick_of_timer_zero (hs : s.sess = .running) (ht : s.timer = 0) :
    applyEvent .tick s = .next (s.finish .timeout) := by
  rw [applyEvent_eq, select, State.ctx_sess, if_pos hs, State.ctx_timer, if_neg (not_not_intro ht)]
  rfl

/-- Any other TICK of a running session (R133). -/
theorem applyEvent_tick_of_timer_ne_zero (hs : s.sess = .running) (ht : s.timer ≠ 0) :
    applyEvent .tick s = .next { s with timer := s.timer - 1 } := by
  rw [applyEvent_eq, select, State.ctx_sess, if_pos hs, State.ctx_timer, if_pos ht]
  rfl

end

/-- A byte that does not deliver a frame leaves the session and its deadline as they are. -/
theorem effect_byte_cases {i : Instr} {b : Byte} (hi : i.event = .byte b) (s : State) :
    ((effect i s).sess = s.sess ∧ (effect i s).outcome = s.outcome ∧
      (effect i s).timer = s.timer) ∨
    ((effect i s).sess = .done ∧ (effect i s).outcome = .ok) := by
  cases i with
  | reset | startRun | startIgn | tickDec | tickExp | tickIgn | cancelFin | cancelIgn | ioerrFin
  | ioerrIgn | nop => cases hi
  | ckLoOk => exact .inr ⟨rfl, rfl⟩
  | _ => exact .inl ⟨rfl, rfl, rfl⟩

/-! ### Runs -/

/-- Settles O44: each NOP is a step that gives the state itself. -/
theorem idleStepsAreInvisible : Obligations.IdleStepsAreInvisible := by
  intro es
  induction es with
  | nil => exact fun _ => rfl
  | cons e es ih =>
    intro s
    by_cases he : e = .nop
    · subst he
      rw [runEvents_cons_of_next (applyEvent_nop s), ih, List.filter_cons_of_neg (by simp)]
    · rw [runEvents_cons, ih, List.filter_cons_of_pos (by simpa using he), runEvents_cons]

/-- Every run keeps the invariants of R21. -/
theorem inv_runEvents {s t : State} {es : List Event} (hi : Inv s)
    (h : runEvents es s = .next t) : Inv t := by
  induction es generalizing s with
  | nil => cases h; exact hi
  | cons e es ih =>
    rw [runEvents_cons] at h
    exact ih (inv_effect hi (rowFits_select s.ctx e)) h

/-- Settles O47: a state with an outcome is DONE (I4), and there only the host's events act. -/
theorem oneOutcomePerSession : Obligations.OneOutcomePerSession := by
  intro s t es fs hi _ _ hfs h hout
  have hdone : t.sess = .done := (inv_runEvents hi h).done.2 hout
  exact runEvents_of_not_running (by rw [hdone]; nofun) hfs

/-- Settles O58: CANCEL in the state that the events lead to. -/
theorem cancelIsHonouredAtEveryStep : Obligations.CancelIsHonouredAtEveryStep := by
  refine ⟨fun s t es h ht => ⟨t.finish .cancelled, ?_, rfl, rfl, rfl, rfl⟩,
    fun s hs => runEvents_of_not_running hs rfl⟩
  rw [runEvents_append_of_next h, runEvents_cons_of_next (applyEvent_cancel_of_running ht)]
  rfl

end Sys2Proof.Machine
end

section
/-! PROOFS. The deadline (R133, R134, R144, R201): in a running session `TIMER` is what the TICKs so
far have left of the timeout. -/

namespace Sys2Proof.Machine

/-- Where a session started with `n` can be after `k` TICKs, if nothing began another one. -/
inductive Deadline (n k : Nat) (t : State) : Prop where
  | running (hs : t.sess = .running) (ho : t.outcome = .none) (htimer : t.timer.toNat + k = n)
  | ended (hs : t.sess = .done) (ho : t.outcome ≠ .none) (hlate : t.outcome = .timeout → n < k)

/-- One event counts a TICK or leaves the deadline, or it ends the session. -/
theorem deadline_applyEvent {n k : Nat} {s : State} {e : Event} (h : Deadline n k s)
    (he : notHost e = true) : ∃ u, applyEvent e s = .next u ∧ Deadline n (k + ticksIn [e]) u := by
  cases h with
  | ended hs ho hlate =>
    exact ⟨s, applyEvent_of_not_running (by rw [hs]; nofun) he,
      .ended hs ho fun h => Nat.lt_of_lt_of_le (hlate h) (Nat.le_add_right _ _)⟩
  | running hs ho htimer =>
    cases e with
    | reset | start => cases he
    | nop => exact ⟨s, applyEvent_nop s, .running hs ho htimer⟩
    | cancel => exact ⟨_, applyEvent_cancel_of_running hs, .ended rfl nofun nofun⟩
    | ioerr => exact ⟨_, applyEvent_ioerr_of_running hs, .ended rfl nofun nofun⟩
    | tick =>
      by_cases ht : s.timer = 0
      · have h0 : s.timer.toNat = 0 := by rw [ht]; rfl
        exact ⟨_, applyEvent_tick_of_timer_zero hs ht,
          .ended rfl nofun fun _ => show n < k + 1 by omega⟩
      · have hless := timer_sub_one_toNat ht
        exact ⟨_, applyEvent_tick_of_timer_ne_zero hs ht,
          .running hs ho (show (s.timer - 1).toNat + (k + 1) = n by omega)⟩
    | byte b =>
      refine ⟨_, applyEvent_eq _ s, ?_⟩
      obtain ⟨hsess, hout, hleft⟩ | ⟨hsess, hout⟩ :=
        effect_byte_cases (event_select s.ctx (.byte b)) s
      · exact .running (hsess.trans hs) (hout.trans ho) (by rw [hleft]; exact htimer)
      · exact .ended hsess (by rw [hout]; nofun) (by rw [hout]; nofun)

theorem ticksIn_cons (e : Event) (es : List Event) :
    ticksIn (e :: es) = ticksIn [e] + ticksIn es :=
  List.count_append (l₁ := [e])

theorem deadline_runEvents {n k : Nat} {s : State} {es : List Event} (h : Deadline n k s)
    (hes : es.all notHost = true) :
    ∃ t, runEvents es s = .next t ∧ Deadline n (k + ticksIn es) t := by
  induction es generalizing k s with
  | nil => exact ⟨s, rfl, h⟩
  | cons e es ih =>
    obtain ⟨he, hrest⟩ : notHost e = true ∧ es.all notHost = true := by simpa using hes
    obtain ⟨u, hu, hdu⟩ := deadline_applyEvent h he
    obtain ⟨t, ht, hdt⟩ := ih hdu hrest
    rw [Nat.add_assoc, ← ticksIn_cons] at hdt
    exact ⟨t, (runEvents_cons_of_next hu).trans ht, hdt⟩

/-- The first TICK comes at most one period after START, and `n` whole periods follow it (R201). -/
theorem tickTime_bounds {phase : Nat} (n : Nat) (hpos : 0 < phase)
    (hle : phase ≤ (Config.tickPeriod : Nat)) :
    n * (Config.tickPeriod : Nat) < tickTime phase (n + 1) ∧
      tickTime phase (n + 1) ≤ (n + 1) * (Config.tickPeriod : Nat) := by
  rw [tickTime, Nat.add_sub_cancel, Nat.succ_mul]
  omega

/-- Settles O57: the deadline after START is `n` with no TICK yet, and is kept over the run. -/
theorem sessionEndsByTickNPlusOne : Obligations.SessionEndsByTickNPlusOne := by
  refine ⟨fun s n es hs hes => ?_, fun _ n hpos hle => tickTime_bounds n hpos hle⟩
  have hstart := applyEvent_start_of_not_running hs n
  obtain ⟨t, ht, hd⟩ := deadline_runEvents (n := n.toNat) (k := 0)
    (s := effect (.startRun n) s) (.running rfl rfl rfl) hes
  rw [Nat.zero_add] at hd
  refine ⟨t, (runEvents_cons_of_next hstart).trans ht, ?_⟩
  cases hd with
  | running hrun hout htimer =>
    rw [hrun, hout]
    refine ⟨fun hlate => ?_, nofun, fun _ hk => ?_⟩
    · omega
    · have hzero : t.timer = 0 := BitVec.eq_of_toNat_eq (show t.timer.toNat = 0 by omega)
      exact ⟨_, applyEvent_tick_of_timer_zero hrun hzero, rfl, rfl⟩
  | ended hdone hout hlate =>
    exact ⟨fun _ => ⟨hdone, hout⟩, hlate, fun hrun => by rw [hdone] at hrun; cases hrun⟩

end Sys2Proof.Machine
end

section
/-! PROOFS. A frame in a session (R145 (c), (d)): a damaged frame leaves nothing, and a well-formed
one is delivered although NOPs and TICKs come between its bytes, since the bytes do not look at
`TIMER`. -/

namespace Sys2Proof.Machine

/-- Settles O53: the restart of the scan at `POS = 0` changes nothing. -/
theorem corruptFrameLeavesNoTrace : Obligations.CorruptFrameLeavesNoTrace := by
  intro s f hi hs hp h0 h1 h2 h3 hck
  have hhome : s.attemptReset = s := scan_false_of_inv hi hp
  rw [runEvents_corrupt_frame hs (holdsAttempt_nil_of_inv hi hp) ⟨h0, h1, h2, h3⟩ hck, hhome]

/-! ### Bytes with NOPs and TICKs between them -/

/-- The state but for its deadline. -/
def State.untimed (s : State) : State := { s with timer := 0 }

/-- A byte does not look at `TIMER`, and leaves it or zeroes it. -/
theorem effect_byte_untimed (s : State) (b : Byte) :
    effect (select s.untimed.ctx (.byte b)) s.untimed =
      (effect (select s.ctx (.byte b)) s).untimed := by
  have hevent := event_select s.ctx (.byte b)
  change effect (select s.ctx (.byte b)) s.untimed = _
  generalize select s.ctx (.byte b) = i at hevent ⊢
  cases i with
  | reset | startRun | startIgn | tickDec | tickExp | tickIgn | cancelFin | cancelIgn | ioerrFin
  | ioerrIgn | nop => cases hevent
  | _ => rfl

/-- But for the deadline, an event that the deadline allows does what its byte does, if it has
one. -/
theorem applyEvent_quiet {s : State} {e : Event} {k : Nat} (he : isQuiet e = true)
    (hticks : s.sess = .running → ticksIn [e] + k ≤ s.timer.toNat) :
    ∃ u, applyEvent e s = .next u ∧ (u.sess = .running → k ≤ u.timer.toNat) ∧
      runEvents (byteEvents (bytesIn [e])) s.untimed = .next u.untimed := by
  cases e with
  | reset | start | ioerr | cancel => cases he
  | nop => exact ⟨s, applyEvent_nop s, fun hs => le_of_add_le_right (hticks hs), rfl⟩
  | tick =>
    by_cases hs : s.sess = .running
    · have hle : 1 + k ≤ s.timer.toNat := hticks hs
      have hne : s.timer ≠ 0 := fun h0 => by simp [h0] at hle
      have hless := timer_sub_one_toNat hne
      exact ⟨_, applyEvent_tick_of_timer_ne_zero hs hne,
        fun _ => show k ≤ (s.timer - 1).toNat by omega, rfl⟩
    · exact ⟨s, applyEvent_of_not_running hs rfl, (absurd · hs), rfl⟩
  | byte b =>
    refine ⟨_, applyEvent_eq _ s, fun hrun => ?_, ?_⟩
    · obtain ⟨hsess, -, hleft⟩ | ⟨hsess, -⟩ :=
        effect_byte_cases (event_select s.ctx (.byte b)) s
      · rw [hleft]
        exact le_of_add_le_right (hticks (hsess.symm.trans hrun))
      · rw [hsess] at hrun; cases hrun
    · rw [← effect_byte_untimed]
      exact runEvents_cons _ [] _

/-- But for the deadline, events with no more TICKs than it allows do what their bytes do. -/
theorem runEvents_quiet {s : State} {es : List Event} (hes : es.all isQuiet = true)
    (hticks : s.sess = .running → ticksIn es ≤ s.timer.toNat) :
    ∃ t, runEvents es s = .next t ∧
      runEvents (byteEvents (bytesIn es)) s.untimed = .next t.untimed := by
  induction es generalizing s with
  | nil => exact ⟨s, rfl, rfl⟩
  | cons e es ih =>
    obtain ⟨he, hrest⟩ : isQuiet e = true ∧ es.all isQuiet = true := by simpa using hes
    rw [ticksIn_cons] at hticks
    obtain ⟨u, hu, hleft, hbyte⟩ := applyEvent_quiet he hticks
    obtain ⟨t, ht, hbytes⟩ := ih hrest hleft
    have hsplit : bytesIn (e :: es) = bytesIn [e] ++ bytesIn es := List.filterMap_append (l := [e])
    refine ⟨t, (runEvents_cons_of_next hu).trans ht, ?_⟩
    rw [hsplit, byteEvents_append, runEvents_append_of_next hbyte, hbytes]

/-! ### The delivered frame -/

/-- No byte begins a session or cuts one. -/
theorem all_notHost_byteEvents (bs : List Byte) : (byteEvents bs).all notHost = true := by
  simp [byteEvents, notHost]

theorem all_notHost_of_quiet {es : List Event} (hes : es.all isQuiet = true) :
    es.all notHost = true := by
  rw [List.all_eq_true] at hes ⊢
  intro e he
  have hq := hes e he
  cases e with
  | reset | start => cases hq
  | _ => rfl

/-- A run that ends in DONE shows its result at the first state that is DONE: nothing changes after
it. -/
theorem firstDone_of_run {s t : State} {es : List Event} (hes : es.all notHost = true)
    (h : runEvents es s = .next t) (ht : t.sess = .done) :
    firstDone es s = some (t.outcome, t.meas) := by
  induction es generalizing s with
  | nil => cases h; exact if_pos ht
  | cons e es ih =>
    by_cases hs : s.sess = .done
    · rw [runEvents_of_not_running (by rw [hs]; nofun) hes] at h
      cases h
      exact if_pos ht
    · obtain ⟨-, hrest⟩ : notHost e = true ∧ es.all notHost = true := by simpa using hes
      rw [runEvents_cons] at h
      simp only [firstDone, if_neg hs, applyEvent_eq, ih hrest h]

/-- A session begins with the invariants of R21, from any state. -/
theorem inv_startRun (s : State) (n : Ticks) : Inv (effect (.startRun n) s) :=
  inv_of_empty_attempt rfl rfl rfl rfl (absurd rfl) ⟨nofun, fun _ => rfl⟩ fun _ => rfl

/-- The frame ends the running session with its measurement, and `TIMER` is zero outside RUNNING
(I1). -/
theorem runEvents_quiet_frame {s : State} {f : Frame} {es : List Event} (hi : Inv s)
    (hs : s.sess = .running) (hp : s.pos = 0) (hf : f.WellFormed) (hbytes : bytesIn es = f.toList)
    (hes : es.all isQuiet = true) (hticks : ticksIn es ≤ s.timer.toNat) :
    runEvents es s = .next { s.finish .ok with meas := f.meas } := by
  obtain ⟨t, ht, hframe⟩ := runEvents_quiet hes fun _ => hticks
  have hnil : HoldsAttempt [] s.untimed := holdsAttempt_with_timer (holdsAttempt_nil_of_inv hi hp) 0
  rw [hbytes, runEvents_wellFormed_frame (s := s.untimed) hs hnil hf] at hframe
  have hend : t.untimed = { s.finish .ok with meas := f.meas } :=
    (Host.Outcome.next.inj hframe).symm
  have hdone : t.sess = .done := congrArg State.sess hend
  obtain ⟨-, -, -, -, htimer⟩ := (inv_runEvents hi ht).idle (by rw [hdone]; nofun)
  rw [ht, ← hend, State.untimed, ← htimer]

/-- Settles O50: the session begins with no byte held, and ends with the frame. -/
theorem goodFrameIsDelivered : Obligations.GoodFrameIsDelivered := by
  intro s n f es trailing hs hf hbytes hes hticks
  have hstart := applyEvent_start_of_not_running hs n
  have hrun := runEvents_quiet_frame (inv_startRun s n) rfl rfl hf hbytes hes hticks
  have htrail := all_notHost_byteEvents trailing
  have hstay := runEvents_of_not_running
    (s := { (effect (.startRun n) s).finish .ok with meas := f.meas }) nofun htrail
  refine ⟨⟨_, (runEvents_cons_of_next hstart).trans hrun, rfl, hstay⟩, ?_⟩
  have hall : (es ++ byteEvents trailing).all notHost = true := by
    rw [List.all_append, all_notHost_of_quiet hes, htrail]; rfl
  rw [acquire, hstart]
  exact firstDone_of_run hall ((runEvents_append_of_next hrun).trans hstay) rfl

end Sys2Proof.Machine
end

section
/-! PROOFS. One clock of the pin realisation (R27, R148): the inputs that act on the session come
between `rst` and `start`, and the first of them that ends the session decides its outcome. -/

namespace Sys2Proof.Machine

/-! ### The events of one clock -/

/-- The events of the inputs `cancel`, `tick`, `rx_error` and `rx_valid`, in this order (R148). -/
def Pins.sessionEvents (p : Pins) : List Event :=
  (if p.cancel then [.cancel] else []) ++ ((if p.tick then [.tick] else []) ++
    ((if p.rxError then [.ioerr] else []) ++ (if p.rxValid then [.byte p.rxData] else [])))

theorem Pins.asserted_eq (p : Pins) :
    p.asserted = (if p.rst then [.reset] else []) ++ (p.sessionEvents ++
      (if p.start then [.start p.timeoutTicks] else [])) := by
  simp only [Pins.asserted, Pins.sessionEvents, List.append_assoc]

theorem Pins.all_notHost_sessionEvents (p : Pins) : p.sessionEvents.all notHost = true := by
  rw [List.all_eq_true]
  intro e he
  simp only [Pins.sessionEvents, List.mem_append, List.mem_ite_nil_right,
    List.mem_singleton] at he
  obtain ⟨-, rfl⟩ | ⟨-, rfl⟩ | ⟨-, rfl⟩ | ⟨-, rfl⟩ := he <;> rfl

/-- The NOP of a clock with no input changes nothing. -/
theorem clock_eq (p : Pins) (s : State) : clock p s = runEvents p.asserted s := by
  rw [clock, Pins.events]
  split
  · next h => rw [h, runEvents_cons_of_next (applyEvent_nop s)]
  · next h => rw [h]

section
variable {s : State} {p : Pins}

theorem clock_of_session_inputs (hr : p.rst = false) (hst : p.start = false) :
    clock p s = runEvents p.sessionEvents s := by
  simp [clock_eq, Pins.asserted_eq, hr, hst]

theorem clock_of_start (hr : p.rst = false) (hst : p.start = true) :
    clock p s = runEvents (p.sessionEvents ++ [.start p.timeoutTicks]) s := by
  simp [clock_eq, Pins.asserted_eq, hr, hst]

theorem clock_of_rst_start (hr : p.rst = true) (hst : p.start = true) :
    clock p s = runEvents (.reset :: (p.sessionEvents ++ [.start p.timeoutTicks])) s := by
  simp [clock_eq, Pins.asserted_eq, hr, hst]

/-! ### The input that ends the session -/

/-- What comes after the event that ends the session has no effect. -/
theorem runEvents_of_finish {e : Event} {es : List Event} {k : SessionOutcome}
    (h : applyEvent e s = .next (s.finish k)) (hes : (e :: es).all notHost = true) :
    runEvents (e :: es) s = .next (s.finish k) := by
  obtain ⟨-, hrest⟩ : notHost e = true ∧ es.all notHost = true := by simpa using hes
  rw [runEvents_cons_of_next h, runEvents_of_not_running (s := s.finish k) nofun hrest]

theorem runEvents_sessionEvents_of_cancel (hs : s.sess = .running) (hc : p.cancel = true) :
    runEvents p.sessionEvents s = .next (s.finish .cancelled) := by
  have hhost := p.all_notHost_sessionEvents
  rw [Pins.sessionEvents, if_pos hc] at hhost ⊢
  exact runEvents_of_finish (applyEvent_cancel_of_running hs) hhost

theorem runEvents_sessionEvents_of_expiring_tick (hs : s.sess = .running)
    (hc : p.cancel = false) (ht : p.tick = true) (hzero : s.timer = 0) :
    runEvents p.sessionEvents s = .next (s.finish .timeout) := by
  have hhost := p.all_notHost_sessionEvents
  rw [Pins.sessionEvents, hc, if_neg Bool.false_ne_true, if_pos ht] at hhost ⊢
  exact runEvents_of_finish (applyEvent_tick_of_timer_zero hs hzero) hhost

/-- A tick that does not expire leaves the read error a running session. -/
theorem runEvents_sessionEvents_of_rxError (hs : s.sess = .running) (hc : p.cancel = false)
    (ht : p.tick = true → s.timer ≠ 0) (he : p.rxError = true) :
    runEvents p.sessionEvents s = .next (s.finish .ioFailure) := by
  have hhost := p.all_notHost_sessionEvents
  rw [Pins.sessionEvents, hc, if_neg Bool.false_ne_true, if_pos he] at hhost ⊢
  cases htick : p.tick with
  | false =>
    rw [htick] at hhost
    exact runEvents_of_finish (applyEvent_ioerr_of_running hs) hhost
  | true =>
    rw [htick] at hhost
    exact (runEvents_cons_of_next (applyEvent_tick_of_timer_ne_zero hs (ht htick))).trans
      (runEvents_of_finish (s := { s with timer := s.timer - 1 })
        (applyEvent_ioerr_of_running hs) hhost)

theorem exists_finish_of_ending_input (hs : s.sess = .running)
    (hend : p.cancel = true ∨ (p.tick = true ∧ s.timer = 0) ∨ p.rxError = true) :
    ∃ k, runEvents p.sessionEvents s = .next (s.finish k) := by
  cases hc : p.cancel with
  | true => exact ⟨_, runEvents_sessionEvents_of_cancel hs hc⟩
  | false =>
    by_cases ht : p.tick = true ∧ s.timer = 0
    · exact ⟨_, runEvents_sessionEvents_of_expiring_tick hs hc ht.1 ht.2⟩
    · have he : p.rxError = true := (hend.resolve_left (by rw [hc]; nofun)).resolve_left ht
      exact ⟨_, runEvents_sessionEvents_of_rxError hs hc (not_and.1 ht) he⟩

/-! ### A start in the same clock -/

/-- The start of a clock begins the next session where the inputs before it leave none running. -/
theorem runEvents_sessionEvents_start {u : State} (h : runEvents p.sessionEvents s = .next u)
    (hu : u.sess ≠ .running) :
    runEvents (p.sessionEvents ++ [.start p.timeoutTicks]) s =
      .next { u.clearResult.attemptReset with sess := .running, timer := p.timeoutTicks } := by
  rw [runEvents_append_of_next h, runEvents_cons_of_next (applyEvent_start_of_not_running hu _)]
  rfl

end

/-- Settles O60: by the input that ends the session, and the inputs of a clock before its start. -/
theorem inputsOfOneClock : Obligations.InputsOfOneClock := by
  intro s p
  refine ⟨fun hs hr hst hc => ?_, fun hs hr hst hc ht hzero => ?_,
    fun hs hr hst hc ht he => ?_, fun hs hr hst hend => ?_, fun hr hst => ?_,
    fun hr hst hc ht he hv => ?_⟩
  · rw [clock_of_session_inputs hr hst]
    exact ⟨_, runEvents_sessionEvents_of_cancel hs hc, rfl, rfl⟩
  · rw [clock_of_session_inputs hr hst]
    exact ⟨_, runEvents_sessionEvents_of_expiring_tick hs hc ht hzero, rfl, rfl⟩
  · rw [clock_of_session_inputs hr hst]
    exact ⟨_, runEvents_sessionEvents_of_rxError hs hc ht he, rfl, rfl⟩
  · obtain ⟨k, hk⟩ := exists_finish_of_ending_input hs hend
    rw [clock_of_start hr hst, runEvents_sessionEvents_start hk nofun]
    rfl
  · have hready : (effect .reset s).sess ≠ .running := nofun
    have hignored := runEvents_of_not_running hready p.all_notHost_sessionEvents
    rw [clock_of_rst_start hr hst]
    exact (runEvents_cons _ _ s).trans
      (runEvents_sessionEvents_start (u := effect .reset s) hignored hready)
  · have hnone : p.sessionEvents = [] := by simp [Pins.sessionEvents, hc, ht, he, hv]
    rw [clock_of_session_inputs hr hst, hnone]
    rfl

end Sys2Proof.Machine
end

section
/-! PROOFS. The errors and the ownership of the state (60_exceptions.md): an operation that raises an
error takes it and does nothing more (R160 to R170), and who may write which element (R172). -/

namespace Sys2Proof.Machine

/-! ### Taking an error -/

/-- The "raised by" column of R161. -/
theorem raised_eq_some_iff (i : Instr) (k : ErrKind) : raised i = some k ↔
    (i = .ioerrFin ∧ k = .ioFailure) ∨ (i = .tickExp ∧ k = .timeout) ∨
    (i = .cancelFin ∧ k = .cancelled) ∨ ((∃ b, i = .lenLoBad b) ∧ k = .badFrameLength) ∨
    ((∃ b, i = .ckLoBad b) ∧ k = .checksumMismatch) := by
  constructor
  · intro h
    cases i with
    | ioerrFin => cases h; exact .inl ⟨rfl, rfl⟩
    | tickExp => cases h; exact .inr (.inl ⟨rfl, rfl⟩)
    | cancelFin => cases h; exact .inr (.inr (.inl ⟨rfl, rfl⟩))
    | lenLoBad b => cases h; exact .inr (.inr (.inr (.inl ⟨⟨b, rfl⟩, rfl⟩)))
    | ckLoBad b => cases h; exact .inr (.inr (.inr (.inr ⟨⟨b, rfl⟩, rfl⟩)))
    | _ => cases h
  · rintro (⟨rfl, rfl⟩ | ⟨rfl, rfl⟩ | ⟨rfl, rfl⟩ | ⟨⟨b, rfl⟩, rfl⟩ | ⟨⟨b, rfl⟩, rfl⟩) <;> rfl

section
variable {i : Instr} {k : ErrKind} {s : State}

/-- Errors are raised by the bytes of a session and by `Finish`: in RUNNING only. -/
theorem running_of_fits_raised (hf : rowFits s.ctx i = true) (hr : raised i = some k) :
    s.sess = .running := by
  refine running_of_fits hf ?_
  obtain ⟨rfl, -⟩ | ⟨rfl, -⟩ | ⟨rfl, -⟩ | ⟨⟨b, rfl⟩, -⟩ | ⟨⟨b, rfl⟩, -⟩ :=
    (raised_eq_some_iff i k).1 hr
  · exact .inr rfl
  · exact .inr rfl
  · exact .inr rfl
  · exact .inl rfl
  · exact .inl rfl

/-- Taking the error is all that an operation that raises one does (R169, R170). -/
theorem effect_of_raised (hr : raised i = some k) (s : State) : effect i s = s.raiseError k := by
  obtain ⟨rfl, rfl⟩ | ⟨rfl, rfl⟩ | ⟨rfl, rfl⟩ | ⟨⟨b, rfl⟩, rfl⟩ | ⟨⟨b, rfl⟩, rfl⟩ :=
    (raised_eq_some_iff i k).1 hr <;> rfl

/-- A recoverable error restarts the scan (R169). -/
theorem raiseError_of_becomes_none (ho : k.becomesOutcome = none) :
    s.raiseError k = s.attemptReset := by
  rw [State.raiseError, ho]

/-- An error that becomes an outcome ends the session with it (R170). -/
theorem raiseError_of_becomes_some {o : SessionOutcome} (ho : k.becomesOutcome = some o) :
    s.raiseError k = s.finish o := by
  rw [State.raiseError, ho]

theorem becomesOutcome_of_recoverable (hc : k.cls = .recoverable) : k.becomesOutcome = none := by
  cases k with
  | ioFailure | timeout | cancelled => cases hc
  | badFrameLength | checksumMismatch => rfl

/-- The outcome has the code of the error (R161). -/
theorem becomesOutcome_of_not_recoverable (hc : k.cls ≠ .recoverable) :
    ∃ o, k.becomesOutcome = some o ∧ o.code = k.code := by
  cases k with
  | ioFailure | timeout | cancelled => exact ⟨_, rfl, rfl⟩
  | badFrameLength | checksumMismatch => exact absurd rfl hc

/-- A selected operation that raises an error of the ending classes leaves the session DONE. -/
theorem exec_finish_of_raised {o : SessionOutcome} (hf : rowFits s.ctx i = true)
    (hr : raised i = some k) (ho : k.becomesOutcome = some o) :
    ∃ t, exec i s = .next t ∧ t = s.finish o ∧
      t.isDone = true ∧ t.busy = false ∧ t.srcOpen = false := by
  have heffect : effect i s = s.finish o :=
    (effect_of_raised hr s).trans (raiseError_of_becomes_some ho)
  exact ⟨s.finish o, heffect ▸ exec_of_fits hf, rfl, rfl, rfl, rfl⟩

end

/-- Settles O33: by the operations that raise each kind, and the outcome each class becomes. -/
theorem raisedErrorsHaveTheEffectOfTheirClass :
    Obligations.RaisedErrorsHaveTheEffectOfTheirClass := by
  refine ⟨⟨rfl, rfl, rfl, rfl, rfl⟩, ⟨rfl, rfl, rfl, rfl, rfl⟩, raised_eq_some_iff,
    fun i k s t hr h => ?_⟩
  obtain ⟨hf, rfl⟩ := exec_next h
  rw [effect_of_raised hr s]
  refine ⟨running_of_fits_raised hf hr, fun hc => ?_, fun hc => ?_⟩
  · have ho := becomesOutcome_of_recoverable hc
    exact ⟨ho, raiseError_of_becomes_none ho⟩
  · obtain ⟨o, ho, hcode⟩ := becomesOutcome_of_not_recoverable hc
    exact ⟨o, ho, hcode, raiseError_of_becomes_some ho⟩

/-- Settles O18: the row fits, and Timeout becomes TIMEOUT. -/
theorem tickAtZeroTimesOut : Obligations.TickAtZeroTimesOut := by
  refine ⟨rfl, fun s hs ht => ?_⟩
  have hfits : rowFits s.ctx .tickExp = true := by simp [rowFits, hs, ht]
  exact exec_finish_of_raised hfits rfl rfl

/-- Settles O19: the row fits at every `POS`, and Cancelled becomes CANCELLED. -/
theorem cancelEndsTheSession : Obligations.CancelEndsTheSession :=
  ⟨rfl, fun _ hs => exec_finish_of_raised (i := .cancelFin) (beq_iff_eq.2 hs) rfl rfl⟩

/-- Settles O20: the row fits at every `POS`, and IoFailure becomes IO_FAILURE. -/
theorem readErrorEndsTheSession : Obligations.ReadErrorEndsTheSession :=
  ⟨rfl, fun _ hs => exec_finish_of_raised (i := .ioerrFin) (beq_iff_eq.2 hs) rfl rfl⟩

/-! ### Who may write what -/

/-- The writers of the attempt: the bytes of a session, the host and `Finish`. -/
theorem effect_attempt_cases (i : Instr) (s : State) :
    (isPipeline i = true ∨ isHostStart i = true ∨ isFinish i = true) ∨
    ((effect i s).pos, (effect i s).acc, (effect i s).lenHi, (effect i s).buf) =
      (s.pos, s.acc, s.lenHi, s.buf) := by
  cases i with
  | reset | startRun => exact .inl (.inr (.inl rfl))
  | tickExp | cancelFin | ioerrFin => exact .inl (.inr (.inr rfl))
  | startIgn | tickDec | tickIgn | cancelIgn | ioerrIgn | byteIgn | nop => exact .inr rfl
  | _ => exact .inl (.inl rfl)

/-- The writers of `TIMER`: TICK.DEC, the host and `Finish`. -/
theorem effect_timer_cases (i : Instr) (s : State) :
    (i = .tickDec ∨ isHostStart i = true ∨ isFinish i = true) ∨
    (effect i s).timer = s.timer := by
  cases i with
  | tickDec => exact .inl (.inl rfl)
  | reset | startRun => exact .inl (.inr (.inl rfl))
  | tickExp | cancelFin | ioerrFin | ckLoOk => exact .inl (.inr (.inr rfl))
  | _ => exact .inr rfl

/-- The writers of the session's status and outcome: the host and `Finish`. -/
theorem effect_session_cases (i : Instr) (s : State) :
    (isHostStart i = true ∨ isFinish i = true) ∨
    ((effect i s).sess, (effect i s).outcome) = (s.sess, s.outcome) := by
  cases i with
  | reset | startRun => exact .inl (.inl rfl)
  | tickExp | cancelFin | ioerrFin | ckLoOk => exact .inl (.inr rfl)
  | _ => exact .inr rfl

/-- Settles O37: by the writers of each element. -/
theorem ownershipOfTheState : Obligations.OwnershipOfTheState := by
  intro i s t h
  obtain ⟨-, rfl⟩ := exec_next h
  have hmeas : (effect i s).meas ≠ s.meas → isHostStart i = true ∨ ∃ b, i = .ckLoOk b :=
    fun hne => (effect_meas_cases i s).imp And.left fun hc => (hc.resolve_right hne).left
  exact ⟨(effect_attempt_cases i s).resolve_right, (effect_timer_cases i s).resolve_right,
    (effect_session_cases i s).resolve_right, hmeas, effect_own_fields i s⟩

end Sys2Proof.Machine
end

section
/-! PROOFS. The hazards of the session (70_reset_and_hazards.md): the strap in a session, a false marker
in front of a frame (R195), and the exchanges that the additive checksum does not see (R196). -/

namespace Sys2Proof

/-! ### The checksum under an exchange -/

/-- The bytes of a frame add up to its checksum and the two bytes of its checksum field. -/
theorem Frame.sum_toNat_toList (f : Frame) :
    (f.toList.map BitVec.toNat).sum = f.checksum + (f[30].toNat + f[31].toNat) := by
  have hlast : f.toList.drop 30 = [f[30], f[31]] := by
    simp [List.drop_eq_getElem_cons]
  calc (f.toList.map BitVec.toNat).sum
      = ((f.toList.take 30 ++ f.toList.drop 30).map BitVec.toNat).sum := by
        rw [List.take_append_drop]
    _ = f.checksum + (f[30].toNat + f[31].toNat) := by
        rw [List.map_append, List.sum_append, hlast]; rfl

/-- An exchange leaves the total of all bytes and the checksum field, so also the checksum (R196). -/
theorem Frame.checksum_swap (f : Frame) {i j : Nat} (hi : i < 30) (hj : j < 30) :
    Frame.checksum (f.swap i j) = f.checksum := by
  have hperm : (f.swap i j).toList.Perm f.toList := (Vector.swap_perm _ _).toList
  have htotal := (hperm.map BitVec.toNat).sum_eq
  rw [Frame.sum_toNat_toList, Frame.sum_toNat_toList,
    Vector.getElem_swap_of_ne (by omega) (by omega),
    Vector.getElem_swap_of_ne (by omega) (by omega)] at htotal
  exact Nat.add_right_cancel htotal

/-- Settles O56: the exchange leaves the header, the checksum field and the checksum. -/
theorem exchangedDataBytesVerify : Obligations.ExchangedDataBytesVerify := by
  intro f i j hi hj hi4 hj4 hf
  have hkeep (k : Nat) (hk : k < 32) (hout : k < 4 ∨ 30 ≤ k) : (f.swap i j)[k] = f[k] :=
    Vector.getElem_swap_of_ne (by omega) (by omega)
  change Frame.WellFormed (f.swap i j)
  rwa [Frame.WellFormed, f.checksum_swap hi hj, hkeep 0 _ (by omega), hkeep 1 _ (by omega),
    hkeep 2 _ (by omega), hkeep 3 _ (by omega), hkeep 30 _ (by omega), hkeep 31 _ (by omega)]

end Sys2Proof

namespace Sys2Proof.Machine

/-! ### The strap -/

theorem setRearm_self (s : State) : s.setRearm s.params.rearm = some s :=
  if_neg fun h => h.2 rfl

theorem setRearm_of_not_running {s : State} (hs : s.sess ≠ .running) (r : Bool) :
    s.setRearm r = some { s with params := { s.params with rearm := r } } :=
  if_neg fun h => hs h.1

/-- Settles O46: by the cases of the operation. -/
theorem strapIsConstantInASession : Obligations.StrapIsConstantInASession := by
  intro s r
  refine ⟨fun hs hr => if_pos ⟨hs, hr⟩, fun hs => ⟨_, setRearm_of_not_running hs r, rfl, rfl⟩, ?_⟩
  rintro rfl
  exact setRearm_self s

/-! ### A false marker -/

/-- The marker takes the block from Idle to the length field, with either value of the strap. -/
theorem runEvents_marker {s : State} (hs : s.sess = .running) :
    runEvents (byteEvents [0x42, 0x4D]) (s.scan false) =
      .next { s.attemptReset with pos := 2, acc := 0x008F } := by
  have hmiss : CompletesNoMarker s.params.rearm [0x42] := fun p q hpq =>
    absurd (hpq ▸ List.mem_append_right p List.mem_cons_self : (0x4D : Byte) ∈ [0x42]) (by decide)
  have harmed : armedAfter s.params.rearm [0x42] = true := by
    cases s.params.rearm <;> rfl
  exact runEvents_scan_mark2 hs hmiss harmed

/-- A length field that is not 28 restarts the scan (R102). -/
theorem runEvents_bad_length {s : State} {hi lo : Byte} (hs : s.sess = .running)
    (hp : s.pos.toNat = 2) (hlen : ¬(hi = 0x00 ∧ lo = 0x1C)) :
    runEvents (byteEvents [hi, lo]) s = .next s.attemptReset := by
  have hfirst : select s.ctx (.byte hi) = .lenHi hi := by
    obtain ⟨-, -, h2, -⟩ := selectByte_by_range s.ctx hi hs
    exact h2 hp
  have hsecond : select (effect (.lenHi hi) s).ctx (.byte lo) = .lenLoBad lo := by
    obtain ⟨-, -, -, h3, -⟩ := selectByte_by_range (effect (.lenHi hi) s).ctx lo hs
    have hpos : (effect (.lenHi hi) s).pos.toNat = 3 := by
      rw [(advances_lenHi hi hp).pos, hp]
    exact (h3 hpos).trans (if_neg hlen)
  calc runEvents (byteEvents [hi, lo]) s
      = runEvents [.byte lo] (effect (.lenHi hi) s) := by rw [← hfirst]; exact runEvents_cons _ _ s
    _ = .next (effect (.lenLoBad lo) (effect (.lenHi hi) s)) := by
        rw [← hsecond]; exact runEvents_cons _ [] _
    _ = .next s.attemptReset := rfl

/-- Settles O54: the real marker is read as the length `0x424D`, which is not 28. -/
theorem falseMarkerSwallowsARealOne : Obligations.FalseMarkerSwallowsARealOne := by
  intro s f hi hs hp hf
  have hhome : s.scan false = s := scan_false_of_inv hi hp
  have htake : f.toList.take 2 = [0x42, 0x4D] := by
    rw [f.take_succ_toList (n := 1) (by omega), f.take_succ_toList (n := 0) (by omega),
      hf.hasHeader.mark1, hf.hasHeader.mark2]
    rfl
  have hmarker := runEvents_marker hs
  have hlength : runEvents (byteEvents [0x42, 0x4D])
      { s.attemptReset with pos := 2, acc := 0x008F } = .next s.attemptReset :=
    runEvents_bad_length hs rfl (by decide)
  rw [hhome] at hmarker
  rw [htake, byteEvents_append, runEvents_append_of_next hmarker]
  exact hlength.trans (congrArg _ hhome)

end Sys2Proof.Machine
end
